-- ==== Sys2Proof/Word.lean ====
section
/-! DEFINITION. The block's word types: 8-, 16- and 32-bit data (20_memory.md R88, 10_state.md R32). -/

namespace Sys2Proof

/-- A byte is 8 bits, bit 0 the least significant (00_scope.md R18). -/
abbrev Byte := BitVec 8

/-- A 16-bit field: QGAMMA.VALUE, PREF_MTU.VALUE, MTU.VALUE, INFLIGHT_LEN, an event's VALUE. -/
abbrev Half := BitVec 16

/-- A 32-bit word: a register, a command word, an event word, a host address. -/
abbrev Word := BitVec 32

end Sys2Proof
end

