-- ==== Sys2Proof/Config.lean ====
section
/-! DEFINITION. What the spec fixes for this hardware (00_scope.md section 3, 20_memory.md R81), the defaults that
numbered rules state and the model fixes (93_implementation_defined.md I2 to I6, log 9), the OPEN parameters no rule
reads (log 10, log 11), and the free values of bytes nothing has written (log 3). -/

namespace Sys2Proof.Config

/-! ## Sizes (R8 to R14) -/

/-- W, the canvas width in pixels (R8). -/
@[simp] abbrev width : Nat := 128
/-- H, the canvas height in pixels (R8). -/
@[simp] abbrev height : Nat := 296
/-- ROW_BYTES = ceil(W/8) (R9). -/
@[simp] abbrev rowBytes : Nat := 16
/-- FB_BYTES = ceil(W/8) × H (R9). -/
@[simp] abbrev fbBytes : Nat := 4736
/-- CANVAS takes 4 bytes a pixel (20_memory.md R83). -/
@[simp] abbrev canvasBytes : Nat := 151552
/-- FILE_MAX (R13). -/
@[simp] abbrev fileMax : Nat := 8192
/-- HDR_LEN (R10). -/
@[simp] abbrev hdrLen : Nat := 4
/-- FRAME_LEN = HDR_LEN + FB_BYTES (R10). -/
@[simp] abbrev frameLen : Nat := 4740
/-- ATT_OVERHEAD (R11). -/
@[simp] abbrev attOverhead : Nat := 3
/-- CHUNK_MIN (R11). -/
@[simp] abbrev chunkMin : Nat := 20
/-- CHUNK_MAX (R11). -/
@[simp] abbrev chunkMax : Nat := 244
/-- DEFAULT_MTU (R12, I5). -/
@[simp] abbrev defaultMtu : Half := 23#16
/-- PREF_MTU's reset value (R12). -/
@[simp] abbrev prefMtuReset : Half := 247#16
/-- BMP_HDR_LEN (R14). -/
@[simp] abbrev bmpHdrLen : Nat := 62
/-- BMP_FILE_LEN (R14). -/
@[simp] abbrev bmpFileLen : Nat := 4798
/-- NEAR_WHITE_GT: a near-white channel is strictly greater (R15). -/
@[simp] abbrev nearWhiteGt : Nat := 200
/-- NEAR_BLACK_LT: a near-black channel is strictly less (R15). -/
@[simp] abbrev nearBlackLt : Nat := 55

/-! ## Host address map (R81): offsets from BIPB_BASE -/

/-- base(FB). -/
@[simp] abbrev fbBase : Nat := 0x10000
/-- base(FILE). -/
@[simp] abbrev fileBase : Nat := 0x20000
/-- base(CANVAS). -/
@[simp] abbrev canvasBase : Nat := 0x40000
/-- Size of the register page (10_state.md R32). -/
@[simp] abbrev pageBytes : Nat := 0x100

/-! ## OPEN parameters: no body, and no rule reads them -/

/-- BIPB_BASE, where the platform puts the block (20_memory.md R98). Every address of the model is an offset from it. -/
opaque bipbBase : Nat

/-- PEER, the address T_CONNECT names (00_scope.md R17). -/
opaque peer : List Byte
/-- SERVICE_ID, the service T_DISCOVER looks for (00_scope.md R17). -/
opaque serviceId : List Byte
/-- CHAR_ID, the characteristic T_DISCOVER looks for and T_WRITE writes (00_scope.md R17). -/
opaque charId : List Byte

/-! ## Free values -/

/-- The value the byte with key `key` gives when nothing has written it since reset and it is read in the
step whose draw counter is `draw` (20_memory.md R87: an unconstrained draw, drawn again at each read). It has no
body: nothing can be proved of its value. -/
opaque freeByte (draw key : Nat) : Byte

end Sys2Proof.Config
end

