-- ==== Sys2Proof/Syntax.lean ====
section
/-! DEFINITION. The operations of the block: the ten command words and the six event words of
spec/opcode_table.json (30_encoding.md R122, R126), and the inputs that carry them: host bus accesses (R130), event words
and the reset input (70_reset_and_hazards.md R450). -/

namespace Sys2Proof

/-- One constructor per row of spec/opcode_table.json. A command has no operand (R123); an event carries the
fields its row defines (R126, R127). -/
inductive Instr where
  /-- NOP (42_session.md R290). -/
  | nop
  /-- QUANTIZE (40_quantizer.md R210). -/
  | quantize
  /-- UNPACK (41_bitmap_codec.md R237). -/
  | unpack
  /-- BMP_ENCODE (41_bitmap_codec.md R241). -/
  | bmpEncode
  /-- BMP_DECODE (41_bitmap_codec.md R255). -/
  | bmpDecode
  /-- CONNECT (42_session.md R300). -/
  | connect
  /-- DISCONNECT (42_session.md R301). -/
  | disconnect
  /-- SEND (42_session.md R320). -/
  | send
  /-- SCAN_START (42_session.md R330). -/
  | scanStart
  /-- SCAN_STOP (42_session.md R331). -/
  | scanStop
  /-- EVT_CONNECTED (42_session.md R310). -/
  | evtConnected
  /-- EVT_LINK_DOWN (42_session.md R340). -/
  | evtLinkDown
  /-- EVT_MTU_RESULT with GRANTED = e[8] and VALUE = e[31:16] (42_session.md R311). -/
  | evtMtuResult (granted : Bool) (value : Half)
  /-- EVT_DISCOVERY with SVC_FOUND = e[8] and CHAR_FOUND = e[9] (42_session.md R312). -/
  | evtDiscovery (svc chr : Bool)
  /-- EVT_WRITE_DONE with OK = e[8] (42_session.md R321). -/
  | evtWriteDone (ok : Bool)
  /-- EVT_SCAN_HIT (42_session.md R345). -/
  | evtScanHit
  deriving DecidableEq, Repr

/-- An event of the transport, as against a command of the host. -/
def Instr.isEvent : Instr → Bool
  | .nop | .quantize | .unpack | .bmpEncode | .bmpDecode => false
  | .connect | .disconnect | .send | .scanStart | .scanStop => false
  | .evtConnected | .evtLinkDown | .evtMtuResult _ _ => true
  | .evtDiscovery _ _ | .evtWriteDone _ | .evtScanHit => true

/-- The size of a bus access: 8, 16 or 32 bits (20_memory.md R88). -/
inductive Width where
  | b8
  | b16
  | b32
  deriving DecidableEq, Repr

/-- The size in bytes (R130). -/
def Width.bytes : Width → Nat
  | .b8 => 1
  | .b16 => 2
  | .b32 => 4

/-- A BUS access (30_encoding.md R130), its address relative to BIPB_BASE. -/
inductive BusAccess where
  /-- A read of `w` at `addr`. -/
  | read (addr : Word) (w : Width)
  /-- A write of `data`, `w` wide, at `addr`. -/
  | write (addr : Word) (w : Width) (data : Word)
  deriving DecidableEq, Repr

/-- What one step takes (20_memory.md R100): one host access, one transport event, or the reset input. -/
inductive Input where
  /-- The reset input is asserted and released (70_reset_and_hazards.md R450, log 7). -/
  | reset
  /-- The host makes one bus access. -/
  | host (a : BusAccess)
  /-- The transport delivers one event word. -/
  | event (e : Word)
  deriving DecidableEq, Repr

end Sys2Proof
end

