-- ==== Sys2Proof/WellFormed.lean ====
section
/-! DEFINITION. What can stand in an encoding. The fields of Instr have exactly the widths of the
event word's fields, so every instruction is well formed; a bus access is well formed when its write data is as wide as
its size (30_encoding.md R130). -/

namespace Sys2Proof

/-- Every term of Instr has an encoding: commands have no operand (R123), and each event field has the
width of its place in the word (R126, R127: an MTU value is taken as it stands, with no range check). -/
def Instr.wellFormed : Instr → Bool
  | .nop | .quantize | .unpack | .bmpEncode | .bmpDecode => true
  | .connect | .disconnect | .send | .scanStart | .scanStop => true
  | .evtConnected | .evtLinkDown | .evtScanHit => true
  | .evtMtuResult _ _ | .evtDiscovery _ _ | .evtWriteDone _ => true

/-- "wdata the write data, size bytes wide" (R130). -/
def BusAccess.wellFormed : BusAccess → Bool
  | .read _ _ => true
  | .write _ w data => decide (data.toNat < 256 ^ w.bytes)

/-- A well-formed input: any event word may arrive (42_session.md R283). -/
def Input.wellFormed : Input → Bool
  | .reset => true
  | .host a => a.wellFormed
  | .event _ => true

end Sys2Proof
end

