-- ==== Sys2Proof/Decode.lean ====
section
/-! DEFINITION. The two decoders of 30_encoding.md (commands R121, R122, R124; events R125 to R129), the
encoder written from the same tables, and the decoder as spec/opcode_table.json numbers its words. -/

namespace Sys2Proof

/-- Why a word is no operation of its port. -/
inductive DecodeError where
  /-- A command word with RSV = bits [31:8] not zero (R121, R124). -/
  | reservedCommandBits
  /-- A command word whose OP is not listed (R124). -/
  | unknownOpcode
  /-- An event word of a listed code with a reserved flag or value bit set (R128). -/
  | reservedEventBits
  /-- An event word whose CODE is not listed (R128). -/
  | unknownEvent
  deriving DecidableEq, Repr

/-- The low byte of a word: OP of a command (R121), CODE of an event (R125). -/
def lowByte (w : Word) : Byte := w.extractLsb' 0 8

/-- RSV = bits [31:8] of a command word (R121). -/
def reservedField (w : Word) : BitVec 24 := w.extractLsb' 8 24

/-- VALUE = bits [31:16] of an event word (R125, R127). -/
def valueField (e : Word) : Half := e.extractLsb' 16 16

/-- The command decoder (R121): RSV first, then OP in the table of R122. -/
def decodeCmd (w : Word) : Except DecodeError Instr :=
  if reservedField w ≠ 0#24 then .error .reservedCommandBits
  else if lowByte w = 0x00#8 then .ok .nop
  else if lowByte w = 0x01#8 then .ok .quantize
  else if lowByte w = 0x02#8 then .ok .unpack
  else if lowByte w = 0x03#8 then .ok .bmpEncode
  else if lowByte w = 0x04#8 then .ok .bmpDecode
  else if lowByte w = 0x10#8 then .ok .connect
  else if lowByte w = 0x11#8 then .ok .disconnect
  else if lowByte w = 0x12#8 then .ok .send
  else if lowByte w = 0x18#8 then .ok .scanStart
  else if lowByte w = 0x19#8 then .ok .scanStop
  else .error .unknownOpcode

/-- The event decoder (R129): the row whose `(e & mask) = match` (R126), else the event is reserved (R128). -/
def decodeEvt (e : Word) : Except DecodeError Instr :=
  if e &&& 0xFFFFFFFF#32 = 0x00000080#32 then .ok .evtConnected
  else if e &&& 0xFFFFFFFF#32 = 0x00000081#32 then .ok .evtLinkDown
  else if e &&& 0x0000FEFF#32 = 0x00000082#32 then .ok (.evtMtuResult (e.getLsbD 8) (valueField e))
  else if e &&& 0xFFFFFCFF#32 = 0x00000083#32 then .ok (.evtDiscovery (e.getLsbD 8) (e.getLsbD 9))
  else if e &&& 0xFFFFFEFF#32 = 0x00000084#32 then .ok (.evtWriteDone (e.getLsbD 8))
  else if e &&& 0xFFFFFFFF#32 = 0x00000085#32 then .ok .evtScanHit
  else if 0x80#8 ≤ lowByte e ∧ lowByte e ≤ 0x85#8 then .error .reservedEventBits
  else .error .unknownEvent

/-- A flag as bit `i` of an event word. -/
def flagBit (b : Bool) (i : Nat) : Word := (BitVec.ofBool b).setWidth 32 <<< i

/-- The word of an instruction, from the tables of R122 and R126. -/
def encode : Instr → Word
  | .nop => 0x00000000#32
  | .quantize => 0x00000001#32
  | .unpack => 0x00000002#32
  | .bmpEncode => 0x00000003#32
  | .bmpDecode => 0x00000004#32
  | .connect => 0x00000010#32
  | .disconnect => 0x00000011#32
  | .send => 0x00000012#32
  | .scanStart => 0x00000018#32
  | .scanStop => 0x00000019#32
  | .evtConnected => 0x00000080#32
  | .evtLinkDown => 0x00000081#32
  | .evtMtuResult granted value => 0x00000082#32 ||| flagBit granted 8 ||| (value.setWidth 32 <<< 16)
  | .evtDiscovery svc chr => 0x00000083#32 ||| flagBit svc 8 ||| flagBit chr 9
  | .evtWriteDone ok => 0x00000084#32 ||| flagBit ok 8
  | .evtScanHit => 0x00000085#32

/-- The match and mask of the instruction's row in spec/opcode_table.json. -/
def tableRow : Instr → Word × Word
  | .nop => (0x00000000#32, 0xFFFFFFFF#32)
  | .quantize => (0x00000001#32, 0xFFFFFFFF#32)
  | .unpack => (0x00000002#32, 0xFFFFFFFF#32)
  | .bmpEncode => (0x00000003#32, 0xFFFFFFFF#32)
  | .bmpDecode => (0x00000004#32, 0xFFFFFFFF#32)
  | .connect => (0x00000010#32, 0xFFFFFFFF#32)
  | .disconnect => (0x00000011#32, 0xFFFFFFFF#32)
  | .send => (0x00000012#32, 0xFFFFFFFF#32)
  | .scanStart => (0x00000018#32, 0xFFFFFFFF#32)
  | .scanStop => (0x00000019#32, 0xFFFFFFFF#32)
  | .evtConnected => (0x00000080#32, 0xFFFFFFFF#32)
  | .evtLinkDown => (0x00000081#32, 0xFFFFFFFF#32)
  | .evtMtuResult _ _ => (0x00000082#32, 0x0000FEFF#32)
  | .evtDiscovery _ _ => (0x00000083#32, 0xFFFFFCFF#32)
  | .evtWriteDone _ => (0x00000084#32, 0xFFFFFEFF#32)
  | .evtScanHit => (0x00000085#32, 0xFFFFFFFF#32)

/-- Whether a table word is an event word. The table lists command and event words together; every
opcode is below 0x80 (R122) and every event code from 0x80 on (R126), so bit 7 says which port a word is for (log 8). -/
def isEventWord (w : Word) : Bool := w.getLsbD 7

/-- The word of `nbits` bits as the port receives it, every bit above `nbits` zero. -/
def tableWord (nbits w : Nat) : Word := BitVec.ofNat 32 (w % 2 ^ nbits)

/-- The decoder of the word's own port. -/
def decodeWord (w : Word) : Except DecodeError Instr :=
  if isEventWord w then decodeEvt w else decodeCmd w

/-- The instruction the block's decoder reads from a word numbered as spec/opcode_table.json numbers it: every
word is exactly 32 bits (R120), bit 0 the least significant (00_scope.md R18). -/
def decodeTableWord (nbits w : Nat) : Option Instr :=
  match decodeWord (tableWord nbits w) with
  | .ok i => some i
  | .error _ => none

end Sys2Proof
end

