-- ==== Sys2Proof/Machine/Dither.lean ====
section
/-! DEFINITION. The Bayer matrix as a configuration parameter with its default (00_scope.md R16, 40_quantizer.md R203)
and the threshold of a matrix value (R204). -/

namespace Sys2Proof.Machine

/-- A 4×4 table of the values 0 to 15, row by row (00_scope.md R16, 93_implementation_defined.md I1). -/
abbrev BayerMatrix := Vector (Vector (Fin 16) 4) 4

/-- The default of BAYER4, the standard recursive arrangement (40_quantizer.md R203). -/
def bayerDefault : BayerMatrix :=
  #v[#v[0, 8, 2, 10], #v[12, 4, 14, 6], #v[3, 11, 1, 9], #v[15, 7, 13, 5]]

/-- `m(x, y) = BAYER4[y mod 4][x mod 4]` under the matrix `bayer4` (40_quantizer.md R203). -/
def bayer (bayer4 : BayerMatrix) (x y : Nat) : Fin 16 :=
  (bayer4[y % 4]'(Nat.mod_lt y (by decide)))[x % 4]'(Nat.mod_lt x (by decide))

/-- T(m), the integer `68 + 8·m` that `128 + (16·m − 120)/2` is (40_quantizer.md R204, 93_implementation_defined.md I3). -/
def threshold (m : Nat) : Nat := 68 + 8 * m

end Sys2Proof.Machine
end

