-- ==== Sys2Proof/Machine/State.lean ====
section
/-! DEFINITION. Everything the spec gives the block (10_state.md, 20_memory.md) as plain data, the reasons a
step can stop (none), and the state after reset (70_reset_and_hazards.md R450). -/

namespace Sys2Proof.Machine

/-- Buffer contents: (key, byte) pairs with keys strictly rising. No key has a fixed unlisted value: a byte
that nothing has written since reset is a draw (20_memory.md R87, log 3), so no listed value is redundant (log 16). -/
abbrev Memory := List Host.Cell

/-- The regions of the host address map (20_memory.md R81). -/
inductive Region where
  | page
  | fb
  | file
  | canvas
  deriving DecidableEq, Repr

/-- RESULT.CODE (10_state.md R34, 60_exceptions.md R400). Codes 6 to 15 are never written (log 13). -/
inductive ResultCode where
  | ok
  | noMatch
  | notReady
  | busy
  | badCmd
  | badArg
  deriving DecidableEq, Repr

/-- SESSION.STATE (10_state.md R36). -/
inductive SessState where
  | idle
  | connecting
  | negotiatingMtu
  | discovering
  | ready
  | sending
  | failed
  | disconnected
  deriving DecidableEq, Repr

/-- SESSION.FAIL_CAUSE (10_state.md R37). Values 5 to 7 are never written (log 13). -/
inductive FailCause where
  /-- 0 = NONE. -/
  | noCause
  /-- 1 = SEND_NACK. -/
  | sendNack
  /-- 2 = SVC_NOT_FOUND. -/
  | svcNotFound
  /-- 3 = CHAR_NOT_FOUND. -/
  | charNotFound
  /-- 4 = LINK_LOST. -/
  | linkLost
  deriving DecidableEq, Repr

/-- The eight sticky bits of INT_STATUS (10_state.md R38, 60_exceptions.md R410). -/
inductive IntBit where
  | stateChg
  | sendDone
  | sendFail
  | cmdErr
  | evtIgnored
  | scanHit
  | notFound
  | linkLost
  deriving DecidableEq, Repr

/-- The kinds of BusError (60_exceptions.md R402). -/
inductive BusErrorKind where
  | unmapped
  | width
  | misaligned
  deriving DecidableEq, Repr

/-- What one host access returns on the bus (30_encoding.md R130). -/
inductive BusResponse where
  /-- A read's data, zero-extended to 32 bits. -/
  | data (v : Word)
  /-- A write was accepted. -/
  | done
  /-- The error response (60_exceptions.md R402). -/
  | error (k : BusErrorKind)
  deriving DecidableEq, Repr

/-- The transport requests (00_scope.md R22, 42_session.md R282). -/
inductive Request where
  /-- T_CONNECT. -/
  | connect
  /-- T_DISCONNECT. -/
  | disconnect
  /-- T_REQUEST_MTU(n). -/
  | requestMtu (n : Half)
  /-- T_DISCOVER. -/
  | discover
  /-- T_WRITE(bytes). -/
  | write (bytes : List Byte)
  /-- T_SCAN_START. -/
  | scanStart
  /-- T_SCAN_STOP. -/
  | scanStop
  deriving DecidableEq, Repr

/-- The state of the block, its configuration parameter `bayer4`, and three fields of the model's own (`inputs`,
`responses`, `draws`). -/
structure State where
  /-- RESULT.CODE (R34). -/
  resultCode : ResultCode
  /-- RESULT.OPCODE (R34). -/
  resultOpcode : Byte
  /-- SESSION.STATE (R36). -/
  sess : SessState
  /-- SESSION.FAIL_CAUSE (R37). -/
  failCause : FailCause
  /-- SESSION.CHAR_VALID (R35). -/
  charValid : Bool
  /-- SESSION.IN_FLIGHT (R35). -/
  inFlight : Bool
  /-- SESSION.SCAN_ACTIVE (R35). -/
  scanActive : Bool
  /-- INT_STATUS (R38). -/
  intStatus : Byte
  /-- INT_ENABLE (R39). -/
  intEnable : Byte
  /-- QGAMMA.VALUE (R40). -/
  qgamma : Half
  /-- PREF_MTU.VALUE (R41). -/
  prefMtu : Half
  /-- MTU.VALUE (R42). -/
  mtu : Half
  /-- SENT_TOTAL (R45). -/
  sentTotal : Word
  /-- EXPECTED_TOTAL (R45). -/
  expectedTotal : Word
  /-- TX_OFFSET (R44). -/
  txOffset : Word
  /-- INFLIGHT_LEN (R46). -/
  inflightLen : Half
  /-- FILE_LEN (R48). -/
  fileLen : Word
  /-- SCAN_HITS (R49). -/
  scanHits : Word
  /-- FB, FILE and CANVAS, keyed by host address (20_memory.md R81). -/
  mem : Memory
  /-- FRAME, keyed by offset, not host-visible (20_memory.md R86). -/
  frame : Memory
  /-- The transport request history, oldest first (R53). -/
  requests : List Request
  /-- The model's own: what each host access returned, oldest first (log 6). -/
  responses : List BusResponse
  /-- The model's own: the inputs still to be taken, the next one first (log 1). -/
  inputs : List Input
  /-- The model's own: which draw the next read of never-written bytes takes (log 3). -/
  draws : Nat
  /-- The configuration parameter BAYER4 (00_scope.md R16, log 21). No step changes it. -/
  bayer4 : BayerMatrix
  deriving DecidableEq, Repr

/-- Reasons a step stops with a fault. There is none: the block takes no trap, every error is reported in
the step that caused it and the block goes on (60_exceptions.md R402, R412, log 17). -/
inductive Fault where
  deriving DecidableEq, Repr

/-- Reasons a step is refused. -/
inductive Refusal where
  /-- An instruction the model gives no meaning yet. Only an arm of exec may raise it, and none does. Safe. -/
  | notModelled (mnemonic : String)
  deriving DecidableEq, Repr

/-- Every register at the reset value of 70_reset_and_hazards.md R450; no buffer byte written, no request
emitted. The model's own fields: nothing pending, nothing answered, the first draw (log 4).
BAYER4 is at its default (R16). -/
def State.reset : State where
  resultCode := .ok
  resultOpcode := 0x00#8
  sess := .idle
  failCause := .noCause
  charValid := false
  inFlight := false
  scanActive := false
  intStatus := 0x00#8
  intEnable := 0x00#8
  qgamma := 0x0100#16
  prefMtu := Config.prefMtuReset
  mtu := Config.defaultMtu
  sentTotal := 0#32
  expectedTotal := 0#32
  txOffset := 0#32
  inflightLen := 0#16
  fileLen := 0#32
  scanHits := 0#32
  mem := []
  frame := []
  requests := []
  responses := []
  inputs := []
  draws := 0
  bayer4 := bayerDefault

end Sys2Proof.Machine
end

