-- ==== Sys2Proof/Machine/Flags.lean ====
section
/-! DEFINITION. The block's flags (10_state.md R51): the sticky bits of INT_STATUS, how a step sets
them and a host write clears them, the interrupt output they drive, and STATE_CHG. -/

namespace Sys2Proof.Machine

/-- The bit's position in INT_STATUS and INT_ENABLE (R38, R410). -/
def IntBit.pos : IntBit → Nat
  | .stateChg => 0
  | .sendDone => 1
  | .sendFail => 2
  | .cmdErr => 3
  | .evtIgnored => 4
  | .scanHit => 5
  | .notFound => 6
  | .linkLost => 7

/-- The bit as a byte of INT_STATUS. -/
def IntBit.mask (b : IntBit) : Byte := 1#8 <<< b.pos

/-- Whether the sticky bit is set. -/
def State.flag (s : State) (b : IntBit) : Bool := s.intStatus.getLsbD b.pos

/-- Hardware sets a sticky bit; it only ever sets (R38). A bit already 1 stays 1 (60_exceptions.md R411). -/
def State.raise (s : State) (b : IntBit) : State := { s with intStatus := s.intStatus ||| b.mask }

/-- `INT_STATUS <- INT_STATUS & ~wdata[7:0]` (20_memory.md R92). -/
def State.clearFlags (s : State) (wdata : Word) : State :=
  { s with intStatus := s.intStatus &&& ~~~(wdata.setWidth 8) }

/-- The level of the interrupt output: some bit is both set and enabled (60_exceptions.md R410, log 19). -/
def State.irq (s : State) : Bool := s.intStatus &&& s.intEnable != 0#8

/-- Write SESSION.STATE. A write that changes it sets STATE_CHG (42_session.md R284); no rule writes it
twice in one step. -/
def State.enterState (s : State) (n : SessState) : State :=
  if s.sess = n then s else { s.raise .stateChg with sess := n }

end Sys2Proof.Machine
end

