-- ==== Sys2Proof/Machine/Ops.lean ====
section
/-! DEFINITION. The named operations the rules are written in (00_scope.md R21, R22): reads and writes of
buffers, Emit, and the ways a step reports an outcome. The block takes no trap (60_exceptions.md R412): what other machines
have exception entry for, it does with `reject` (R400, R401), `ignore` (R404) and an error response (R402); nothing is saved
and nothing is returned from (R411). -/

namespace Sys2Proof.Machine

/-! ## Buffers -/

/-- Keys strictly rising: the one form of a buffer's contents (log 16). -/
abbrev Memory.wf (m : Memory) : Prop := List.Pairwise (fun c c' => c.1 < c'.1) m

/-- The byte last written at a key, if something has written it since reset. -/
def Memory.peek : Memory → Nat → Option Byte
  | [], _ => none
  | (k, b) :: m, a => if k = a then some b else Memory.peek m a

/-- Read one byte: what the last write left there (20_memory.md R106), or the draw `draw` gives a byte
that nothing has written (R87). -/
def Memory.byteAt (m : Memory) (draw a : Nat) : Byte := (m.peek a).getD (Config.freeByte draw a)

/-- `B[a .. a+n)` as a byte sequence (R21). -/
def Memory.bytesAt (m : Memory) (draw a n : Nat) : List Byte :=
  (List.range n).map fun i => m.byteAt draw (a + i)

/-- A byte sequence as one unsigned integer, the first byte the least significant (R21, 20_memory.md R88). -/
def leNat : List Byte → Nat
  | [] => 0
  | b :: bs => b.toNat + 256 * leNat bs

/-- Byte `i` of `v` in little-endian order. -/
def leByte (v i : Nat) : Byte := BitVec.ofNat 8 (v / 256 ^ i)

/-- `MemRead(space, a, n)` (R21). -/
def Memory.readLe (m : Memory) (draw a n : Nat) : Nat := leNat (m.bytesAt draw a n)

/-- Write the `n` bytes `f 0, …, f (n-1)` at keys `a` to `a+n-1`, all at once (20_memory.md R95, R97). -/
def Memory.blit (m : Memory) (a n : Nat) (f : Nat → Byte) : Memory :=
  m.filter (fun c => c.1 < a) ++ (List.range' a n).map (fun k => (k, f (k - a))) ++ m.filter (fun c => a + n ≤ c.1)

/-- `MemWrite(space, a, n, v)` (R21). -/
def Memory.writeLe (m : Memory) (a n v : Nat) : Memory := m.blit a n (leByte v)

/-- A step that read a buffer leaves the next draw to the next step (20_memory.md R87: drawn again at each
read; log 3, log 20). -/
def State.draw (s : State) : State := { s with draws := s.draws + 1 }

/-! ## Outputs -/

/-- `Emit(req)` (R22). -/
def State.emit (s : State) (r : Request) : State := { s with requests := s.requests ++ [r] }

/-- The bus answers the host's access (30_encoding.md R130, log 6). -/
def State.respond (s : State) (r : BusResponse) : State := { s with responses := s.responses ++ [r] }

/-- The identities a request hands the transport, which the block never interprets (00_scope.md R17, 42_session.md R282, log 10). -/
def Request.identities : Request → List (List Byte)
  | .connect => [Config.peer]
  | .discover => [Config.serviceId, Config.charId]
  | .write _ => [Config.charId]
  | .disconnect | .requestMtu _ | .scanStart | .scanStop => []

/-- The data a bus response carries back: a read that errors returns 0 (60_exceptions.md R402). -/
def BusResponse.readData : BusResponse → Word
  | .data v => v
  | .done => 0#32
  | .error _ => 0#32

/-! ## Outcomes -/

/-- `result(code)` of the command whose opcode is `op`: every CMD write writes both fields (10_state.md R34, 60_exceptions.md R400). -/
def State.result (s : State) (op : Byte) (c : ResultCode) : State :=
  { s with resultCode := c, resultOpcode := op }

/-- A command that fails: its result code and CMD_ERR, nothing else (42_session.md R285, 60_exceptions.md R401). -/
def State.reject (s : State) (op : Byte) (c : ResultCode) : State := (s.result op c).raise .cmdErr

/-- `ignore(e)`: EVT_IGNORED and nothing else (60_exceptions.md R404). -/
def State.ignore (s : State) : State := s.raise .evtIgnored

/-- No chunk outstanding: `IN_FLIGHT <- 0; INFLIGHT_LEN <- 0` (42_session.md R300, R301, R321, R340). -/
def State.retire (s : State) : State := { s with inFlight := false, inflightLen := 0#16 }

/-- `CHAR_VALID <- 0`, no chunk outstanding, and the cause `FAIL_CAUSE <- c` (42_session.md R300, R301, R340). -/
def State.dropLink (s : State) (c : FailCause) : State :=
  { s.retire with charValid := false, failCause := c }

end Sys2Proof.Machine
end

