-- ==== Sys2Proof/Machine/Operands.lean ====
section
/-! DEFINITION. Where commands, events and host accesses take their operands from (30_encoding.md R123, R127,
R130): the register page (10_state.md), the pixels of CANVAS and FB (20_memory.md R82, R83), the fields of FILE
(41_bitmap_codec.md R231) and the chunks of FRAME (42_session.md R281, R319). -/

namespace Sys2Proof.Machine

/-! ## Register codes -/

/-- The number of a result code (60_exceptions.md R400). -/
def ResultCode.code : ResultCode → BitVec 4
  | .ok => 0#4
  | .noMatch => 1#4
  | .notReady => 2#4
  | .busy => 3#4
  | .badCmd => 4#4
  | .badArg => 5#4

/-- The number of a session state (10_state.md R36). -/
def SessState.code : SessState → BitVec 3
  | .idle => 0#3
  | .connecting => 1#3
  | .negotiatingMtu => 2#3
  | .discovering => 3#3
  | .ready => 4#3
  | .sending => 5#3
  | .failed => 6#3
  | .disconnected => 7#3

/-- The number of a failure cause (10_state.md R37). -/
def FailCause.code : FailCause → BitVec 3
  | .noCause => 0#3
  | .sendNack => 1#3
  | .svcNotFound => 2#3
  | .charNotFound => 3#3
  | .linkLost => 4#3

/-! ## Derived values -/

/-- `clamp(v, lo, hi) = min(max(v, lo), hi)` (00_scope.md R19). -/
def clamp (v lo hi : Int) : Int := min (max v lo) hi

/-- `ChunkSize(mtu)`, with mtu − 3 an unbounded integer (42_session.md R281). -/
def chunkSize (mtu : Half) : Nat :=
  (clamp ((mtu.toNat : Int) - Config.attOverhead) Config.chunkMin Config.chunkMax).toNat

/-- `ceil(a / b)` for b > 0 (00_scope.md R19). -/
def ceilDiv (a b : Nat) : Nat := (a + b - 1) / b

/-- QUEUE_LEFT (10_state.md R47, log 14). -/
def State.queueLeft (s : State) : Nat :=
  if s.sess = .sending then ceilDiv (Config.frameLen - s.txOffset.toNat) (chunkSize s.mtu) else 0

/-! ## The register page -/

/-- RESULT: CODE = bits [3:0], OPCODE = bits [15:8] (10_state.md R34). -/
def State.resultReg (s : State) : Word :=
  s.resultCode.code.setWidth 32 ||| (s.resultOpcode.setWidth 32 <<< 8)

/-- SESSION: STATE [2:0], FAIL_CAUSE [6:4], CHAR_VALID [8], IN_FLIGHT [9], SCAN_ACTIVE [10] (10_state.md R35). -/
def State.sessionReg (s : State) : Word :=
  s.sess.code.setWidth 32 ||| (s.failCause.code.setWidth 32 <<< 4) ||| flagBit s.charValid 8
    ||| flagBit s.inFlight 9 ||| flagBit s.scanActive 10

/-- A register's 32-bit read value (10_state.md R32 to R50). Reserved bits and offsets read 0 (I12). -/
def State.readReg (s : State) : Nat → Word
  | 0x000 => 0#32
  | 0x004 => s.resultReg
  | 0x008 => s.sessionReg
  | 0x00C => s.intStatus.setWidth 32
  | 0x010 => s.intEnable.setWidth 32
  | 0x014 => s.qgamma.setWidth 32
  | 0x018 => s.prefMtu.setWidth 32
  | 0x01C => s.mtu.setWidth 32
  | 0x020 => BitVec.ofNat 32 (chunkSize s.mtu)
  | 0x024 => s.sentTotal
  | 0x028 => s.expectedTotal
  | 0x02C => s.txOffset
  | 0x030 => s.inflightLen.setWidth 32
  | 0x034 => BitVec.ofNat 32 s.queueLeft
  | 0x038 => s.fileLen
  | 0x03C => s.scanHits
  | 0x040 => 0x01280080#32
  | 0x044 => 0x00001280#32
  | 0x048 => 0x00002000#32
  | _ => 0#32

/-- FILE_LEN stores min(v, 8192) (10_state.md R48). -/
def fileLenLegal (v : Word) : Word := if v.toNat ≤ Config.fileMax then v else 8192#32

/-- A 32-bit write of a register other than CMD, by its access type (20_memory.md R92): RW registers store
their defined bits, INT_STATUS clears, FILE_LEN stores a legal length, and every other offset ignores the write. -/
def State.writeReg (s : State) (off : Nat) (v : Word) : State :=
  match off with
  | 0x00C => s.clearFlags v
  | 0x010 => { s with intEnable := v.setWidth 8 }
  | 0x014 => { s with qgamma := v.setWidth 16 }
  | 0x018 => { s with prefMtu := v.setWidth 16 }
  | 0x038 => { s with fileLen := fileLenLegal v }
  | _ => s

/-! ## The host address map -/

/-- The region's first address (20_memory.md R81). -/
def Region.base : Region → Nat
  | .page => 0
  | .fb => Config.fbBase
  | .file => Config.fileBase
  | .canvas => Config.canvasBase

/-- The region's size in bytes (20_memory.md R81). -/
def Region.size : Region → Nat
  | .page => Config.pageBytes
  | .fb => Config.fbBytes
  | .file => Config.fileMax
  | .canvas => Config.canvasBytes

/-- Whether all of the `n` bytes from `a` on lie in the region (20_memory.md R90). -/
def Region.holds (r : Region) (a n : Nat) : Bool := decide (r.base ≤ a ∧ a + n ≤ r.base + r.size)

/-- The region that holds the whole access, if one does (20_memory.md R81, R90). -/
def regionOf (a n : Nat) : Option Region :=
  [Region.page, Region.fb, Region.file, Region.canvas].find? fun r => r.holds a n

/-- The region an access reaches, or its error: UNMAPPED, then WIDTH, then MISALIGNED (60_exceptions.md R403). -/
def busCheck (addr : Word) (w : Width) : Except BusErrorKind Region :=
  match regionOf addr.toNat w.bytes with
  | none => .error .unmapped
  | some r =>
    if r = .page ∧ w ≠ .b32 then .error .width
    else if addr.toNat % w.bytes ≠ 0 then .error .misaligned
    else .ok r

/-! ## Pixels -/

/-- The host address of channel `c` of CANVAS pixel (x, y): R, G, B, A for c = 0, 1, 2, 3 (20_memory.md R83). -/
def canvasAddr (x y c : Nat) : Nat := Config.canvasBase + (4 * (Config.width * y + x) + c)

/-- The host address of the FB byte that holds pixel (x, y) (20_memory.md R82). -/
def fbAddr (x y : Nat) : Nat := Config.fbBase + (Config.rowBytes * y + x / 8)

/-- The bit of FB pixel (x, y): 1 is black; the leftmost pixel of a byte is bit 7 (20_memory.md R82). -/
def Memory.fbBit (m : Memory) (draw x y : Nat) : Bool := (m.byteAt draw (fbAddr x y)).getLsbD (7 - x % 8)

/-! ## FILE fields -/

/-- The byte of FILE at an offset (20_memory.md R85). -/
def Memory.fileByte (m : Memory) (draw o : Nat) : Byte := m.byteAt draw (Config.fileBase + o)

/-- `rd16(o)`, little-endian (41_bitmap_codec.md R231). -/
def rd16 (rd : Nat → Byte) (o : Nat) : Nat := leNat [rd o, rd (o + 1)]

/-- `rd32(o)`, little-endian (41_bitmap_codec.md R231). -/
def rd32 (rd : Nat → Byte) (o : Nat) : Nat := leNat [rd o, rd (o + 1), rd (o + 2), rd (o + 3)]

/-- `s32(v)` (00_scope.md R19). -/
def s32 (v : Nat) : Int := (BitVec.ofNat 32 v).toInt

/-- The row stride for 128 pixels, `((128·1 + 31) div 32)·4` (41_bitmap_codec.md R234). -/
def bmpStride : Nat := ((Config.width * 1 + 31) / 32) * 4

/-! ## Chunks -/

/-- The length of the next chunk (42_session.md R321). -/
def State.nextChunkLen (s : State) : Nat := min (chunkSize s.mtu) (Config.frameLen - s.txOffset.toNat)

/-- Issue the `len` bytes of FRAME from `off` on as the outstanding chunk and move the cursor past them
(42_session.md R320, R321). -/
def State.issueChunk (s : State) (off len : Nat) : State :=
  { s.emit (.write (s.frame.bytesAt s.draws off len)) with
    inFlight := true
    inflightLen := BitVec.ofNat 16 len
    txOffset := BitVec.ofNat 32 (off + len) }.draw

end Sys2Proof.Machine
end

