-- ==== Sys2Proof/Machine/Codec.lean ====
section
/-! DEFINITION. UNPACK, BMP_ENCODE and BMP_DECODE (41_bitmap_codec.md). -/

namespace Sys2Proof.Machine

/-! ## Unpacker -/

/-- CANVAS byte `p` as UNPACK writes it: the colour of its pixel's bit, alpha 255 (41_bitmap_codec.md R236, R237). -/
def Memory.unpackByte (m : Memory) (draw p : Nat) : Byte :=
  if p % 4 = 3 then 255#8
  else if m.fbBit draw (p / 4 % Config.width) (p / 4 / Config.width) then 0#8 else 255#8

/-- UNPACK (41_bitmap_codec.md R237). -/
def execUnpack (s : State) : Host.Outcome State Fault Refusal :=
  .next (({ s with
    mem := s.mem.blit Config.canvasBase Config.canvasBytes (s.mem.unpackByte s.draws) }.draw).result 0x02#8 .ok)

/-! ## Encoder -/

/-- The encoder's 62 header bytes (41_bitmap_codec.md R240). -/
def bmpHeader : List Byte :=
  [0x42#8, 0x4D#8, 0xBE#8, 0x12#8, 0x00#8, 0x00#8, 0x00#8, 0x00#8, 0x00#8, 0x00#8, 0x3E#8, 0x00#8, 0x00#8, 0x00#8, 0x28#8, 0x00#8] ++
  [0x00#8, 0x00#8, 0x80#8, 0x00#8, 0x00#8, 0x00#8, 0xD8#8, 0xFE#8, 0xFF#8, 0xFF#8, 0x01#8, 0x00#8, 0x01#8, 0x00#8, 0x00#8, 0x00#8] ++
  [0x00#8, 0x00#8, 0x80#8, 0x12#8, 0x00#8, 0x00#8, 0x13#8, 0x0B#8, 0x00#8, 0x00#8, 0x13#8, 0x0B#8, 0x00#8, 0x00#8, 0x02#8, 0x00#8] ++
  [0x00#8, 0x00#8, 0x00#8, 0x00#8, 0x00#8, 0x00#8, 0xFF#8, 0xFF#8, 0xFF#8, 0x00#8, 0x00#8, 0x00#8, 0x00#8, 0x00#8]

/-- Row data byte `j`: byte j mod stride of image row j div stride, pad bytes 0 (R241). -/
def Memory.rowByte (m : Memory) (draw j : Nat) : Byte :=
  if j % bmpStride < Config.rowBytes then
    m.byteAt draw (Config.fbBase + (Config.rowBytes * (j / bmpStride) + j % bmpStride))
  else 0#8

/-- FILE byte `o` as BMP_ENCODE writes it (R240, R241). -/
def Memory.encodeByte (m : Memory) (draw o : Nat) : Byte :=
  if o < Config.bmpHdrLen then bmpHeader.getD o 0#8 else m.rowByte draw (o - Config.bmpHdrLen)

/-- BMP_ENCODE (41_bitmap_codec.md R241). -/
def execBmpEncode (s : State) : Host.Outcome State Fault Refusal :=
  .next (({ s with
    mem := s.mem.blit Config.fileBase (Config.bmpHdrLen + bmpStride * Config.height) (s.mem.encodeByte s.draws)
    fileLen := BitVec.ofNat 32 (Config.bmpHdrLen + bmpStride * Config.height) }.draw).result 0x03#8 .ok)

/-! ## Decoder -/

/-- Entry 0 near-white and entry 1 near-black; the fourth bytes are not checked (41_bitmap_codec.md R252). -/
def paletteOk (rd : Nat → Byte) (pstart : Nat) : Bool :=
  (List.range 3).all fun c =>
    decide (Config.nearWhiteGt < (rd (pstart + c)).toNat) && decide ((rd (pstart + 4 + c)).toNat < Config.nearBlackLt)

/-- The decoder's checks in the order of R255. On a match, the pixel-data offset and whether the rows are stored
top-down (R235, R250 to R253); `none` is NO_MATCH. -/
def bmpParse (rd : Nat → Byte) (len : Nat) : Option (Nat × Bool) :=
  let hs := rd32 rd 14
  let w := s32 (rd32 rd 18)
  let h := s32 (rd32 rd 22)
  let off := rd32 rd 10
  let pstart := 14 + hs
  let n := (off - pstart) / 4
  if len < 54 then none
  else if rd 0 ≠ 0x42#8 ∨ rd 1 ≠ 0x4D#8 then none
  else if hs < 40 then none
  else if rd16 rd 26 ≠ 1 then none
  else if rd16 rd 28 ≠ 1 then none
  else if rd32 rd 30 ≠ 0 then none
  else if w ≠ Config.width then none
  else if h.natAbs ≠ Config.height then none
  else if off < pstart ∨ (off - pstart) % 4 ≠ 0 then none
  else if n ≠ 0 ∧ n ≠ 2 then none
  else if len < off + bmpStride * Config.height then none
  else if n = 2 ∧ paletteOk rd pstart = false then none
  else some (off, decide (h < 0))

/-- FB byte `i` as a decode writes it: image row i div 16 is file row src(r) (41_bitmap_codec.md R254). -/
def decodeByte (rd : Nat → Byte) (off : Nat) (topDown : Bool) (i : Nat) : Byte :=
  let r := i / Config.rowBytes
  rd (off + bmpStride * (if topDown then r else Config.height - 1 - r) + i % Config.rowBytes)

/-- BMP_DECODE (41_bitmap_codec.md R255). NO_MATCH is a normal outcome and sets no CMD_ERR (60_exceptions.md R401). -/
def execBmpDecode (s : State) : Host.Outcome State Fault Refusal :=
  match bmpParse (s.mem.fileByte s.draws) s.fileLen.toNat with
  | none => .next (s.draw.result 0x04#8 .noMatch)
  | some (off, topDown) => .next (({ s with
      mem := s.mem.blit Config.fbBase Config.fbBytes
        (decodeByte (s.mem.fileByte s.draws) off topDown) }.draw).result 0x04#8 .ok)

end Sys2Proof.Machine
end

