-- ==== Sys2Proof/Machine/Quantizer.lean ====
section
/-! DEFINITION. QUANTIZE (40_quantizer.md): luma, gamma, the Bayer threshold and MSB-first packing. -/

namespace Sys2Proof.Machine

/-- `S = 299·R + 587·G + 114·B`, one thousand times the luma (40_quantizer.md R201). -/
def lumaSum (r g b : Byte) : Nat := 299 * r.toNat + 587 * g.toNat + 114 * b.toNat

/-- `S(x, y)` of a canvas pixel; the alpha byte is not read (R201, R209). -/
def Memory.pixelLuma (m : Memory) (draw x y : Nat) : Nat :=
  lumaSum (m.byteAt draw (canvasAddr x y 0)) (m.byteAt draw (canvasAddr x y 1)) (m.byteAt draw (canvasAddr x y 2))

/-- The pixel decision in its exact integer form: black when `S^256 · 255^g < T^g · 255000^256` (R205, R206). -/
def isBlack (g lumaS t : Nat) : Bool := decide (lumaS ^ 256 * 255 ^ g < t ^ g * 255000 ^ 256)

/-- Pixel (x, y) of the canvas at gamma `g` under the matrix `bayer4`, 1 for black (R205). -/
def Memory.quantBit (m : Memory) (draw : Nat) (bayer4 : BayerMatrix) (g x y : Nat) : Bool :=
  isBlack g (m.pixelLuma draw x y) (threshold (bayer bayer4 x y))

/-- Eight pixels in a byte, pixel k in bit 7 − k (R208). -/
def packByte (bit : Nat → Bool) : Byte :=
  (List.range 8).foldl (fun acc k => if bit k then acc ||| (1#8 <<< (7 - k)) else acc) 0#8

/-- FB byte `i` as QUANTIZE writes it: pixels 8·(i mod 16) to 8·(i mod 16) + 7 of row i div 16 (R208). -/
def Memory.quantByte (m : Memory) (draw : Nat) (bayer4 : BayerMatrix) (g i : Nat) : Byte :=
  packByte fun k => m.quantBit draw bayer4 g (8 * (i % Config.rowBytes) + k) (i / Config.rowBytes)

/-- QUANTIZE (40_quantizer.md R210). -/
def execQuantize (s : State) : Host.Outcome State Fault Refusal :=
  if s.qgamma = 0#16 then .next (s.reject 0x01#8 .badArg)
  else .next (({ s with
    mem := s.mem.blit Config.fbBase Config.fbBytes (s.mem.quantByte s.draws s.bayer4 s.qgamma.toNat) }.draw).result 0x01#8 .ok)

end Sys2Proof.Machine
end

