-- ==== Sys2Proof/Machine/Session.lean ====
section
/-! DEFINITION. The transfer session (42_session.md): NOP, CONNECT, DISCONNECT, SEND, SCAN_START, SCAN_STOP
and the six transport events. -/

namespace Sys2Proof.Machine

/-- NOP (42_session.md R290). -/
def execNop (s : State) : Host.Outcome State Fault Refusal := .next (s.result 0x00#8 .ok)

/-! ## Connection -/

/-- A running scan is stopped (42_session.md R300, R331). -/
def State.stopScan (s : State) : State :=
  if s.scanActive then { s.emit .scanStop with scanActive := false } else s

/-- CONNECT (42_session.md R300). -/
def execConnect (s : State) : Host.Outcome State Fault Refusal :=
  if s.sess ≠ .idle ∧ s.sess ≠ .disconnected ∧ s.sess ≠ .failed then .next (s.reject 0x10#8 .busy)
  else
    let s1 := s.stopScan
    let s2 := if s.sess = .failed then s1.emit .disconnect else s1
    let s3 := { s2.dropLink .noCause with mtu := Config.defaultMtu }
    .next (((s3.emit .connect).enterState .connecting).result 0x10#8 .ok)

/-- DISCONNECT (42_session.md R301). -/
def execDisconnect (s : State) : Host.Outcome State Fault Refusal :=
  let s1 := if s.sess = .idle ∨ s.sess = .disconnected then s else s.emit .disconnect
  let s2 := if s.sess = .sending then s1.raise .sendFail else s1
  .next (((s2.dropLink .noCause).enterState .disconnected).result 0x11#8 .ok)

/-- EVT_CONNECTED (42_session.md R310). -/
def execEvtConnected (s : State) : Host.Outcome State Fault Refusal :=
  if s.sess ≠ .connecting then .next s.ignore
  else .next ((s.enterState .negotiatingMtu).emit (.requestMtu s.prefMtu))

/-- EVT_MTU_RESULT (42_session.md R311). -/
def execEvtMtuResult (granted : Bool) (value : Half) (s : State) : Host.Outcome State Fault Refusal :=
  if s.sess ≠ .negotiatingMtu then .next s.ignore
  else
    let s1 := { s with mtu := if granted then value else Config.defaultMtu }
    .next ((s1.enterState .discovering).emit .discover)

/-- EVT_DISCOVERY (42_session.md R312). -/
def execEvtDiscovery (svc chr : Bool) (s : State) : Host.Outcome State Fault Refusal :=
  if s.sess ≠ .discovering then .next s.ignore
  else if svc && chr then .next ({ s with charValid := true }.enterState .ready)
  else
    let s1 := { s with charValid := false, failCause := if svc then .charNotFound else .svcNotFound }
    .next ((s1.enterState .failed).raise .notFound)

/-! ## SEND -/

/-- Byte `o` of the frame of R318: the magic 0x46, 0x42, the payload length 4736 little-endian, then FB. -/
def Memory.frameByte (m : Memory) (draw o : Nat) : Byte :=
  match o with
  | 0 => 0x46#8
  | 1 => 0x42#8
  | 2 => 0x80#8
  | 3 => 0x12#8
  | i + 4 => m.byteAt draw (Config.fbBase + i)

/-- Whether SEND finds what it needs: a characteristic, and READY or FAILED after a failed send (42_session.md R320). -/
def State.sendReady (s : State) : Bool :=
  s.charValid && (decide (s.sess = .ready) || (decide (s.sess = .failed) && decide (s.failCause = .sendNack)))

/-- SEND (42_session.md R318, R320). -/
def execSend (s : State) : Host.Outcome State Fault Refusal :=
  if s.sess = .sending then .next (s.reject 0x12#8 .busy)
  else if s.sendReady = false then .next (s.reject 0x12#8 .notReady)
  else
    let s1 := { s with
      frame := s.frame.blit 0 Config.frameLen (s.mem.frameByte s.draws)
      sentTotal := 0#32
      expectedTotal := BitVec.ofNat 32 Config.frameLen
      failCause := .noCause }
    .next (((s1.issueChunk 0 Config.hdrLen).enterState .sending).result 0x12#8 .ok)

/-- EVT_WRITE_DONE (42_session.md R321). -/
def execEvtWriteDone (ok : Bool) (s : State) : Host.Outcome State Fault Refusal :=
  if s.sess ≠ .sending ∨ s.inFlight = false then .next s.ignore
  else if ok then
    let s1 := { s with sentTotal := s.sentTotal + s.inflightLen.setWidth 32 }
    if s.txOffset.toNat < Config.frameLen then .next (s1.issueChunk s.txOffset.toNat s.nextChunkLen)
    else .next ((s1.retire.enterState .ready).raise .sendDone)
  else
    let s1 := { s.retire with failCause := .sendNack }
    .next ((s1.enterState .failed).raise .sendFail)

/-! ## Scan -/

/-- SCAN_START (42_session.md R330). -/
def execScanStart (s : State) : Host.Outcome State Fault Refusal :=
  if s.sess ≠ .idle ∧ s.sess ≠ .disconnected then .next (s.reject 0x18#8 .busy)
  else
    let s1 := if s.scanActive then s else { s with scanHits := 0#32, scanActive := true }.emit .scanStart
    .next (s1.result 0x18#8 .ok)

/-- SCAN_STOP (42_session.md R331). -/
def execScanStop (s : State) : Host.Outcome State Fault Refusal := .next (s.stopScan.result 0x19#8 .ok)

/-! ## Link drop and scan hits -/

/-- EVT_LINK_DOWN (42_session.md R340). -/
def execEvtLinkDown (s : State) : Host.Outcome State Fault Refusal :=
  let s1 := if s.sess = .sending then s.raise .sendFail else s
  .next (((s1.dropLink .linkLost).enterState .disconnected).raise .linkLost)

/-- EVT_SCAN_HIT (42_session.md R345); SCAN_HITS wraps modulo 2^32. -/
def execEvtScanHit (s : State) : Host.Outcome State Fault Refusal :=
  if s.scanActive = false then .next s.ignore
  else .next ({ s with scanHits := s.scanHits + 1#32 }.raise .scanHit)

end Sys2Proof.Machine
end

