-- ==== Sys2Proof/Machine/Dispatch.lean ====
section
/-! DEFINITION. One arm per row of spec/opcode_table.json. -/

namespace Sys2Proof.Machine

/-- The meaning of each command and each event. -/
def exec (i : Instr) (s : State) : Host.Outcome State Fault Refusal :=
  match i with
  | .nop => Sys2Proof.Machine.execNop s
  | .quantize => Sys2Proof.Machine.execQuantize s
  | .unpack => Sys2Proof.Machine.execUnpack s
  | .bmpEncode => Sys2Proof.Machine.execBmpEncode s
  | .bmpDecode => Sys2Proof.Machine.execBmpDecode s
  | .connect => Sys2Proof.Machine.execConnect s
  | .disconnect => Sys2Proof.Machine.execDisconnect s
  | .send => Sys2Proof.Machine.execSend s
  | .scanStart => Sys2Proof.Machine.execScanStart s
  | .scanStop => Sys2Proof.Machine.execScanStop s
  | .evtConnected => Sys2Proof.Machine.execEvtConnected s
  | .evtLinkDown => Sys2Proof.Machine.execEvtLinkDown s
  | .evtMtuResult granted value => Sys2Proof.Machine.execEvtMtuResult granted value s
  | .evtDiscovery svc chr => Sys2Proof.Machine.execEvtDiscovery svc chr s
  | .evtWriteDone ok => Sys2Proof.Machine.execEvtWriteDone ok s
  | .evtScanHit => Sys2Proof.Machine.execEvtScanHit s

end Sys2Proof.Machine
end

