-- ==== Sys2Proof/Machine/Bus.lean ====
section
/-! DEFINITION. What one input does (20_memory.md R100): a host access with its whole command (R33, R88 to R96), a
transport event (30_encoding.md R129), the reset input (70_reset_and_hazards.md R450). -/

namespace Sys2Proof.Machine

/-- A 32-bit write to CMD: decode and run, or BAD_CMD; RESULT.OPCODE is the low byte on every path (30_encoding.md R121, R124). -/
def runCommand (w : Word) (s : State) : Host.Outcome State Fault Refusal :=
  match decodeCmd w with
  | .ok i => exec i s
  | .error _ => .next (s.reject (lowByte w) .badCmd)

/-- An event word: decode and run, or ignore (30_encoding.md R128, R129). -/
def takeEvent (e : Word) (s : State) : Host.Outcome State Fault Refusal :=
  match decodeEvt e with
  | .ok i => exec i s
  | .error _ => .next s.ignore

/-- A host read that passed its checks. It changes nothing the spec gives the block (20_memory.md R93); the next
draw is left to the next read of a buffer (R87). -/
def busRead (r : Region) (a : Nat) (w : Width) (s : State) : State :=
  if r = .page then s.respond (.data (s.readReg a))
  else (s.respond (.data (BitVec.ofNat 32 (s.mem.readLe s.draws a w.bytes)))).draw

/-- A host write that passed its checks: CMD runs a command, another register takes the write by its access
type, a buffer stores the bytes (20_memory.md R88, R92, R96; log 15). -/
def busWrite (r : Region) (a : Nat) (w : Width) (v : Word) (s : State) : Host.Outcome State Fault Refusal :=
  if r = .page then
    if a = 0 then runCommand v (s.respond .done) else .next ((s.writeReg a v).respond .done)
  else .next ({ s with mem := s.mem.writeLe a w.bytes v.toNat }.respond .done)

/-- One bus access (30_encoding.md R130). An error is a response, and nothing else happens (60_exceptions.md R402, log 5). -/
def busAccess (x : BusAccess) (s : State) : Host.Outcome State Fault Refusal :=
  match x with
  | .read addr w =>
    match busCheck addr w with
    | .error k => .next (s.respond (.error k))
    | .ok r => .next (busRead r addr.toNat w s)
  | .write addr w v =>
    match busCheck addr w with
    | .error k => .next (s.respond (.error k))
    | .ok r => busWrite r addr.toNat w v s

/-- The reset input: every piece of state takes its value of R450; the configuration parameter and
the model's own fields go on (log 7, log 12, log 21). -/
def takeReset (s : State) : State :=
  { State.reset with inputs := s.inputs, responses := s.responses, draws := s.draws, bayer4 := s.bayer4 }

/-- One input, whole, as one step (20_memory.md R100). -/
def takeInput (x : Input) (s : State) : Host.Outcome State Fault Refusal :=
  match x with
  | .reset => .next (takeReset s)
  | .host a => busAccess a s
  | .event e => takeEvent e s

/-- The input that carries a word of spec/opcode_table.json: a command is a 32-bit write to CMD (10_state.md R33),
an event word comes on the event port (30_encoding.md R120, log 8). -/
def inputOfWord (w : Word) : Input := if isEventWord w then .event w else .host (.write 0#32 .b32 w)

/-- The step that takes the next pending input, if there is one (log 1, log 2). -/
def takeNext (s : State) : Host.Outcome State Fault Refusal :=
  match s.inputs with
  | [] => .next s
  | x :: rest => takeInput x { s with inputs := rest }

end Sys2Proof.Machine
end

