-- ==== Sys2Proof/Machine/Step.lean ====
section
/-! DEFINITION. One step of the block (20_memory.md R100) and how a word of spec/opcode_table.json is put in
front of it. -/

namespace Sys2Proof.Machine

/-- One step: the next pending input is taken whole; with none pending the block stays as it is (42_session.md R286, log 2). -/
def step (s : State) : Host.Outcome State Fault Refusal := takeNext s

/-- The state whose next input carries the table word `w` of `nbits` bits (log 8). -/
def State.withFetchWord (s : State) (nbits w : Nat) : State :=
  { s with inputs := inputOfWord (tableWord nbits w) :: s.inputs }

end Sys2Proof.Machine
end

