-- ==== Sys2Proof/Machine/Script.lean ====
section
/-! DEFINITION. The script notation of 30_encoding.md R131 and R132 as lists of inputs, one operation an
element. The `-> v` parts are checks, not inputs; they compare with `State.responses` and `State.requests` (R133). -/

namespace Sys2Proof.Machine

/-- `RD8 a`. -/
def rdByte (a : Word) : Input := .host (.read a .b8)
/-- `RD16 a`. -/
def rdHalf (a : Word) : Input := .host (.read a .b16)
/-- `RD32 a`. -/
def rdWord (a : Word) : Input := .host (.read a .b32)
/-- `WR8 a, d`. -/
def wrByte (a : Word) (d : Byte) : Input := .host (.write a .b8 (d.setWidth 32))
/-- `WR16 a, d`. -/
def wrHalf (a : Word) (d : Half) : Input := .host (.write a .b16 (d.setWidth 32))
/-- `WR32 a, d`. -/
def wrWord (a : Word) (d : Word) : Input := .host (.write a .b32 d)

/-- `CMD <mnemonic>` for a command, `EVT <mnemonic> …` for an event: the input that carries the instruction's word. -/
def deliver (i : Instr) : Input := inputOfWord (encode i)

/-- `FILL32 a, n, d`: the n writes `WR32 a + 4·i, d`. -/
def fillWords (a : Word) (n : Nat) (d : Word) : List Input :=
  (List.range n).map fun i => wrWord (a + BitVec.ofNat 32 (4 * i)) d

/-- `FILL8 a, n, d`: the n writes `WR8 a + i, d`. -/
def fillBytes (a : Word) (n : Nat) (d : Byte) : List Input :=
  (List.range n).map fun i => wrByte (a + BitVec.ofNat 32 i) d

/-- `REPEAT n { body }`: the body written out n times. -/
def repeatScript (n : Nat) (body : List Input) : List Input := (List.replicate n body).flatten

/-- `EXPECT_BYTES S[o .. o+n) = b0 b1 …`: the n bytes have been written and hold the listed values; no effect. -/
def State.expectBytes (s : State) (r : Region) (o : Nat) (bs : List Byte) : Bool :=
  (List.range bs.length).all fun i => s.mem.peek (r.base + o + i) == bs[i]?

/-- The block with a script pending. -/
def State.withScript (s : State) (script : List Input) : State := { s with inputs := script }

/-- The block configured with another Bayer matrix (00_scope.md R16). -/
def State.withMatrix (s : State) (bayer4 : BayerMatrix) : State := { s with bayer4 := bayer4 }

end Sys2Proof.Machine
end

