-- ==== Sys2Proof/Safety.lean ====
section
/-! DEFINITION. What holds in every state the block can reach (10_state.md R54 and the field ranges of R44 to R48),
and runs of the block and of its operations. -/

namespace Sys2Proof.Machine

/-- The 4-byte header of the frame in FRAME (42_session.md R318). -/
def frameHeader : List Byte := [0x46#8, 0x42#8, 0x80#8, 0x12#8]

/-- The invariants of 10_state.md R54 (e apart, which is about two states), the ranges the register rules give,
and the form of the buffers. -/
structure State.Inv (s : State) : Prop where
  /-- R54 (a). -/
  inFlight_iff : s.inFlight = true ↔ s.sess = .sending
  /-- R54 (b), and its converse, which the READY and FAILED rows of 42_session.md R350 rest on. -/
  charValid_iff : s.charValid = true ↔ s.sess = .ready ∨ s.sess = .sending ∨
    (s.sess = .failed ∧ s.failCause = .sendNack)
  /-- R54 (c), the cursor. -/
  sending_cursor : s.sess = .sending → s.sentTotal.toNat + s.inflightLen.toNat = s.txOffset.toNat
  /-- R54 (c), the range of the cursor and the total. -/
  sending_range : s.sess = .sending → 4 ≤ s.txOffset.toNat ∧ s.expectedTotal.toNat = Config.frameLen
  /-- R44, R54 (c). -/
  txOffset_le : s.txOffset.toNat ≤ Config.frameLen
  /-- R54 (d). -/
  sent_le : s.sentTotal.toNat ≤ s.expectedTotal.toNat
  /-- R54 (d). -/
  expected_le : s.expectedTotal.toNat ≤ Config.frameLen
  /-- R54 (f). -/
  scan_state : s.scanActive = true → s.sess = .idle ∨ s.sess = .disconnected
  /-- R46: 0 with no chunk outstanding. -/
  inflight_zero : s.inFlight = false → s.inflightLen = 0#16
  /-- R46: 1 to 244 bytes outstanding (the header chunk has 4). -/
  inflight_range : s.inFlight = true → 1 ≤ s.inflightLen.toNat ∧ s.inflightLen.toNat ≤ Config.chunkMax
  /-- R48. -/
  fileLen_le : s.fileLen.toNat ≤ Config.fileMax
  /-- The buffers' canonical form (log 16). -/
  mem_wf : s.mem.wf
  /-- FRAME's canonical form (log 16). -/
  frame_wf : s.frame.wf
  /-- Only mapped buffer bytes hold anything (20_memory.md R81). -/
  mem_mapped : ∀ c ∈ s.mem, ∃ r, r ≠ Region.page ∧ r.base ≤ c.1 ∧ c.1 < r.base + r.size
  /-- FRAME has 4740 bytes (20_memory.md R86). -/
  frame_mapped : ∀ c ∈ s.frame, c.1 < Config.frameLen
  /-- While SENDING, FRAME holds a whole frame: R318's header and 4736 payload bytes. -/
  sending_frame : s.sess = .sending → (∀ o < Config.frameLen, s.frame.peek o ≠ none) ∧
    ∀ o < Config.hdrLen, s.frame.peek o = frameHeader[o]?
  /-- Every T_WRITE carries 1 to 244 bytes (42_session.md R282). -/
  writes_bounded : ∀ bs, Request.write bs ∈ s.requests → 1 ≤ bs.length ∧ bs.length ≤ Config.chunkMax

/-- Run operations one after another, each as its own step's operation, until one does not answer next. -/
def execs : List Instr → State → Host.Outcome State Fault Refusal
  | [], s => .next s
  | i :: is, s =>
    match exec i s with
    | .next t => execs is t
    | .fault r => .fault r
    | .refused r => .refused r

/-- The run from reset, at the default matrix, on which the inputs `ins` arrive in this order: as many steps as there are inputs. -/
def runInputs (ins : List Input) : Host.Outcome State Fault Refusal :=
  Sys2Proof.core.run ins.length (State.reset.withScript ins)

/-- A state some inputs, in some order, lead to from reset, under some Bayer matrix (00_scope.md R16): any interleaving of
the host's accesses, the transport's events and resets is some list (20_memory.md R102, log 1). -/
def Reachable (t : State) : Prop :=
  ∃ bayer4 ins k, Sys2Proof.core.run k ((State.reset.withMatrix bayer4).withScript ins) = .next t

/-- The chunks of a frame at chunk size `c` (42_session.md R319): the 4-byte header on its own, then the payload cut
every `c` bytes. -/
def chunkQueue (c : Nat) (frame : List Byte) : List (List Byte) :=
  frame.take Config.hdrLen ::
    (List.range (ceilDiv Config.fbBytes c)).map fun k => (frame.drop (Config.hdrLen + k * c)).take c

end Sys2Proof.Machine
end

