-- ==== Sys2Proof/Certificates/Slice0/Obligations.lean ====
section
/-! DEFINITION. The statements for the provers, from the numbered rules of spec/. A statement of the form
`exec i s = .next { s with … }` is at once the instruction's result, its completion and its frame: a field that the
record does not name is unchanged, memory among them. `peek` is the model's read of one byte apart from the draw of a byte
nothing has written (20_memory.md R87); equal `peek`s give equal reads whatever is drawn. -/

open Sys2Proof Sys2Proof.Machine

namespace Sys2Proof.Machine

/-! ## Words the statements use -/

/-- The whole access lies in the register page (20_memory.md R81, R89). -/
def InPage (a n : Nat) : Prop := a + n ≤ 0x100

/-- The whole access lies in FB, in FILE or in CANVAS (20_memory.md R81). -/
def InBuffer (a n : Nat) : Prop :=
  (0x10000 ≤ a ∧ a + n ≤ 0x11280) ∨ (0x20000 ≤ a ∧ a + n ≤ 0x22000) ∨ (0x40000 ≤ a ∧ a + n ≤ 0x65000)

/-- An address of FB. -/
def InFb (a : Nat) : Prop := 0x10000 ≤ a ∧ a < 0x11280

/-- An address of the first 4798 bytes of FILE. -/
def InEncoded (a : Nat) : Prop := 0x20000 ≤ a ∧ a < 0x20000 + 4798

/-- An address of CANVAS. -/
def InCanvas (a : Nat) : Prop := 0x40000 ≤ a ∧ a < 0x65000

/-- The FB byte `i` that a step starting in `s` reads. -/
def fbRead (s : State) (i : Nat) : Byte := s.mem.byteAt s.draws (0x10000 + i)

/-- The FILE byte `o` that a step starting in `s` reads. -/
def fileRead (s : State) (o : Nat) : Byte := s.mem.byteAt s.draws (0x20000 + o)

/-- The byte of channel `c` of canvas pixel (x, y) that a step starting in `s` reads. -/
def canvasRead (s : State) (x y c : Nat) : Byte := s.mem.byteAt s.draws (0x40000 + (4 * (128 * y + x) + c))

/-- 16 bits of a file, little-endian (41_bitmap_codec.md R231). -/
def le16 (rd : Nat → Byte) (o : Nat) : Nat := (rd o).toNat + 256 * (rd (o + 1)).toNat

/-- 32 bits of a file, little-endian (41_bitmap_codec.md R231). -/
def le32 (rd : Nat → Byte) (o : Nat) : Nat :=
  (rd o).toNat + 256 * (rd (o + 1)).toNat + 65536 * (rd (o + 2)).toNat + 16777216 * (rd (o + 3)).toNat

/-- The checks of 41_bitmap_codec.md R250 to R253 on a file of `len` bytes, each as the rule words it: an int32 of 128,
an int32 of absolute value 296, no palette or a palette of two entries that is near-white and near-black. -/
def FileMatches (rd : Nat → Byte) (len : Nat) : Prop :=
  54 ≤ len ∧ rd 0 = 0x42#8 ∧ rd 1 = 0x4D#8 ∧ 40 ≤ le32 rd 14 ∧ le16 rd 26 = 1 ∧ le16 rd 28 = 1 ∧ le32 rd 30 = 0 ∧
  le32 rd 18 = 128 ∧ (le32 rd 22 = 296 ∨ le32 rd 22 = 2 ^ 32 - 296) ∧
  (le32 rd 10 = 14 + le32 rd 14 ∨
    (le32 rd 10 = 14 + le32 rd 14 + 8 ∧ ∀ c < 3, 200 < (rd (14 + le32 rd 14 + c)).toNat ∧
      (rd (14 + le32 rd 14 + 4 + c)).toNat < 55)) ∧
  le32 rd 10 + 16 * 296 ≤ len

/-- The file row that holds image row `r` of a matching file (41_bitmap_codec.md R235, R254). -/
def fileRow (rd : Nat → Byte) (r : Nat) : Nat := if le32 rd 22 = 296 then 295 - r else r

/-- `BAYER4[y mod 4][x mod 4]` as the default table of 40_quantizer.md R203 gives it, then T of R204. -/
def tileThreshold (x y : Nat) : Nat :=
  match y % 4, x % 4 with
  | 0, 0 => 68 | 0, 1 => 132 | 0, 2 => 84 | 0, _ => 148
  | 1, 0 => 164 | 1, 1 => 100 | 1, 2 => 180 | 1, _ => 116
  | 2, 0 => 92 | 2, 1 => 156 | 2, 2 => 76 | 2, _ => 140
  | _, 0 => 188 | _, 1 => 124 | _, 2 => 172 | _, _ => 108

/-- The bytes of the frame a SEND from `s` builds (42_session.md R318). -/
def framePayload (s : State) : List Byte := frameHeader ++ (List.range 4736).map (fbRead s)

/-- The next session state, cell by cell from the table of 42_session.md R350; "ign", "BUSY" and "NR" keep the state,
and so do the operations the rule names as never changing it. -/
def tableState (i : Instr) (s : State) : SessState :=
  match i with
  | .connect => match s.sess with
    | .idle | .failed | .disconnected => .connecting
    | other => other
  | .disconnect | .evtLinkDown => .disconnected
  | .send => match s.sess with
    | .ready => .sending
    | .failed => if s.failCause = .sendNack then .sending else .failed
    | other => other
  | .evtConnected => match s.sess with
    | .connecting => .negotiatingMtu
    | other => other
  | .evtMtuResult _ _ => match s.sess with
    | .negotiatingMtu => .discovering
    | other => other
  | .evtDiscovery svc chr => match s.sess with
    | .discovering => if svc = true ∧ chr = true then .ready else .failed
    | other => other
  | .evtWriteDone ok => match s.sess with
    | .sending => if ok = false then .failed else if s.txOffset.toNat < 4740 then .sending else .ready
    | other => other
  | .nop | .quantize | .unpack | .bmpEncode | .bmpDecode | .scanStart | .scanStop | .evtScanHit => s.sess

/-- An event that arrives where no rule takes it (60_exceptions.md R404, 42_session.md R310 to R345). A command never
does, and EVT_LINK_DOWN is taken in every state (R340). -/
def UnexpectedIn (i : Instr) (s : State) : Prop :=
  match i with
  | .evtConnected => s.sess ≠ .connecting
  | .evtMtuResult _ _ => s.sess ≠ .negotiatingMtu
  | .evtDiscovery _ _ => s.sess ≠ .discovering
  | .evtWriteDone _ => s.sess ≠ .sending ∨ s.inFlight = false
  | .evtScanHit => s.scanActive = false
  | .nop | .quantize | .unpack | .bmpEncode | .bmpDecode | .connect | .disconnect | .send | .scanStart | .scanStop
  | .evtLinkDown => False

/-- An event word the state does not expect, or a reserved one (60_exceptions.md R404). -/
def Unexpected (e : Word) (s : State) : Prop :=
  match decodeEvt e with
  | .error _ => True
  | .ok i => UnexpectedIn i s

/-- The input at the head of the queue writes the command word `w` to CMD. -/
def CommandNext (s : State) (w : Word) (rest : List Input) : Prop :=
  s.inputs = .host (.write 0#32 .b32 w) :: rest

/-- The causes 10_state.md R54 (e) allows for a step from `s` to `t` to change MTU, and the reset input, with the value
each leaves. -/
def MtuChangeHasCause (s t : State) : Prop :=
  t.mtu ≠ s.mtu → ∃ rest, (s.inputs = .reset :: rest ∧ t.mtu = 23#16) ∨ (CommandNext s 0x10#32 rest ∧ t.mtu = 23#16) ∨
    ∃ e granted value, s.inputs = .event e :: rest ∧ decodeEvt e = .ok (.evtMtuResult granted value) ∧
      s.sess = .negotiatingMtu ∧ t.mtu = if granted = true then value else 23#16

end Sys2Proof.Machine

/-! ## Decoding -/

/-- Words written out from R122 and R126 decode to the operations they stand for. -/
def Obligations.TableWordsDecode : Prop :=
  decodeTableWord 32 0x00000000 = some .nop ∧ decodeTableWord 32 0x00000012 = some .send ∧
  decodeTableWord 32 0x00000019 = some .scanStop ∧ decodeTableWord 32 0x00000081 = some .evtLinkDown ∧
  decodeTableWord 32 0x00B90182 = some (.evtMtuResult true 185#16) ∧
  decodeTableWord 32 0x00F70082 = some (.evtMtuResult false 247#16) ∧
  decodeTableWord 32 0x00000183 = some (.evtDiscovery true false) ∧
  decodeTableWord 32 0x00000283 = some (.evtDiscovery false true) ∧
  decodeTableWord 32 0x00000084 = some (.evtWriteDone false) ∧
  decodeTableWord 32 0x00000382 = none ∧ decodeTableWord 32 0x00000107 = none

/-- Every operation's word decodes to it, with every operand at every value, at the port it belongs to and at no other;
and a word either decoder accepts is the word of what it decodes to, so no two words share a meaning. -/
def Obligations.DecodeEncodeAgree : Prop :=
  (∀ i : Instr, i.wellFormed = true →
    decodeTableWord 32 (encode i).toNat = some i ∧
    (i.isEvent = false → decodeCmd (encode i) = .ok i ∧ ∀ j, decodeEvt (encode i) ≠ .ok j) ∧
    (i.isEvent = true → decodeEvt (encode i) = .ok i ∧ ∀ j, decodeCmd (encode i) ≠ .ok j)) ∧
  ∀ (w : Word) (i : Instr), decodeCmd w = .ok i ∨ decodeEvt w = .ok i → encode i = w

/-- R124: a reserved command word changes nothing but RESULT and CMD_ERR. The step's own answer on the bus is the
model's record (log 6). -/
def Obligations.ReservedCommandChangesOnlyResult : Prop :=
  ∀ (s : State) (w : Word) (rest : List Input), CommandNext s w rest →
    (256 ≤ w.toNat ∨ (5 ≤ w.toNat ∧ w.toNat ≤ 0x0F) ∨ (0x13 ≤ w.toNat ∧ w.toNat ≤ 0x17) ∨ 0x1A ≤ w.toNat) →
    step s = .next { s with
      inputs := rest, responses := s.responses ++ [.done], resultCode := .badCmd,
      resultOpcode := BitVec.ofNat 8 w.toNat, intStatus := s.intStatus ||| 0x08#8 }

/-- R128, R404: which event words are reserved, from the table's own words: an unlisted code, or a bit set that the
row's mask covers. Each only sets EVT_IGNORED. -/
def Obligations.ReservedEventOnlySetsIgnored : Prop :=
  ∀ (s : State) (e : Word) (rest : List Input), s.inputs = .event e :: rest →
    (e.toNat % 256 < 0x80 ∨ 0x86 ≤ e.toNat % 256 ∨
      (e.toNat % 256 ≠ 0x82 ∧ e.toNat % 256 ≠ 0x83 ∧ e.toNat % 256 ≠ 0x84 ∧ 256 ≤ e.toNat) ∨
      (e.toNat % 256 = 0x82 ∧ 2 ≤ e.toNat / 256 % 256) ∨
      (e.toNat % 256 = 0x83 ∧ 1024 ≤ e.toNat) ∨ (e.toNat % 256 = 0x84 ∧ 512 ≤ e.toNat)) →
    step s = .next { s with inputs := rest, intStatus := s.intStatus ||| 0x10#8 }

/-! ## The step -/

/-- A step whose next input carries a decoded word is that instruction's meaning: a command by a 32-bit write to CMD,
which also answers the host, an event by the event port. The input is used up. -/
def Obligations.StepRunsDecoded : Prop :=
  ∀ (s : State) (w : Word) (i : Instr) (rest : List Input),
    (CommandNext s w rest → decodeCmd w = .ok i →
      step s = exec i { s with inputs := rest, responses := s.responses ++ [.done] }) ∧
    (s.inputs = .event w :: rest → decodeEvt w = .ok i → step s = exec i { s with inputs := rest })

/-- A table word put in front of the step is taken as the table's instruction, whichever port it is for. -/
def Obligations.FetchWordRunsInstr : Prop :=
  ∀ (s : State) (i : Instr), ∃ answer : List BusResponse,
    step (s.withFetchWord 32 (encode i).toNat) = exec i { s with responses := s.responses ++ answer } ∧
    (i.isEvent = true → answer = []) ∧ (i.isEvent = false → answer = [.done])

/-- No step faults and none is refused: every command, event, access and reset is answered by a next state. -/
def Obligations.StepAlwaysNext : Prop :=
  (∀ s : State, ∃ t, step s = .next t) ∧ ∀ (i : Instr) (s : State), ∃ t, exec i s = .next t

/-- With no input pending the block stays as it is, for any number of steps (log 2). -/
def Obligations.ParkedForEver : Prop :=
  ∀ (s : State) (k : Nat), s.inputs = [] → Sys2Proof.core.run k s = .next s

/-- R465 with the reset input beside it: the states that wait are left only on an event or a DISCONNECT. -/
def Obligations.WaitingStatesLeftOnlyByEventOrDisconnect : Prop :=
  ∀ s t : State, step s = .next t → s.sess = .connecting ∨ s.sess = .negotiatingMtu ∨ s.sess = .discovering ∨
    s.sess = .sending → t.sess ≠ s.sess →
    ∃ rest, s.inputs = .reset :: rest ∨ CommandNext s 0x11#32 rest ∨ ∃ e, s.inputs = .event e :: rest

/-- R450: the reset input. Every register reads its reset value, the interrupt output is low, no buffer byte is
written, and no request is recorded. The Bayer matrix is a parameter of the block, not a register, and stays (log 21). -/
def Obligations.ResetInputLoadsResetValues : Prop :=
  ∀ (s : State) (rest : List Input), s.inputs = .reset :: rest →
    step s = .next { State.reset with
      inputs := rest, responses := s.responses, draws := s.draws, bayer4 := s.bayer4 } ∧
    (∀ t, step s = .next t →
      t.readReg 0x004 = 0#32 ∧ t.readReg 0x008 = 0#32 ∧ t.readReg 0x00C = 0#32 ∧ t.readReg 0x010 = 0#32 ∧
      t.readReg 0x014 = 0x100#32 ∧ t.readReg 0x018 = 0xF7#32 ∧ t.readReg 0x01C = 0x17#32 ∧
      t.readReg 0x020 = 0x14#32 ∧ t.readReg 0x024 = 0#32 ∧ t.readReg 0x028 = 0#32 ∧ t.readReg 0x02C = 0#32 ∧
      t.readReg 0x030 = 0#32 ∧ t.readReg 0x034 = 0#32 ∧ t.readReg 0x038 = 0#32 ∧ t.readReg 0x03C = 0#32 ∧
      t.irq = false ∧ t.requests = [] ∧ ∀ a, t.mem.peek a = none ∧ t.frame.peek a = none)

/-! ## Invariants -/

/-- R453: the invariants hold in the reset state, under every Bayer matrix and whatever inputs are pending there. -/
def Obligations.ResetInvariant : Prop :=
  ∀ (bayer4 : BayerMatrix) (ins : List Input), ((State.reset.withMatrix bayer4).withScript ins).Inv

/-- 10_state.md R54 and the ranges of the registers: every step, whatever its input, keeps them. -/
def Obligations.StepKeepsInvariant : Prop := ∀ s t : State, s.Inv → step s = .next t → t.Inv

/-- R453: the invariants hold in the reset state, and every state reachable from it, by any inputs in any order (log 1)
and under any Bayer matrix (log 21), satisfies them; R54 (e), which is about two states, holds of every step from a
reachable state. `State.Inv` says more than R54: the converse of (b), the register ranges, the buffers' canonical form
(log 16) and what FRAME holds while SENDING are the model's own. -/
def Obligations.ReachableInvariant : Prop :=
  (∀ bayer4 : BayerMatrix, (State.reset.withMatrix bayer4).Inv) ∧ ∀ t : State, Reachable t → t.Inv ∧ ∀ u : State, step t = .next u → MtuChangeHasCause t u

/-! ## Whole-machine rules -/

/-- R284, for every command, event and reserved command word. -/
def Obligations.StateChgExactlyOnChange : Prop :=
  (∀ (i : Instr) (s t : State), exec i s = .next t →
    t.flag .stateChg = (s.flag .stateChg || decide (t.sess ≠ s.sess))) ∧
  ∀ (w : Word) (s t : State), runCommand w s = .next t →
    t.flag .stateChg = (s.flag .stateChg || decide (t.sess ≠ s.sess))

/-- R34, R401: every CMD write, whatever it decodes to, writes both fields of RESULT, and sets CMD_ERR exactly when
the code is neither OK nor NO_MATCH; no event writes RESULT or CMD_ERR. -/
def Obligations.ResultAndCmdErr : Prop :=
  (∀ (w : Word) (s t : State), runCommand w s = .next t →
    t.resultOpcode = BitVec.ofNat 8 w.toNat ∧
    t.flag .cmdErr = (s.flag .cmdErr || decide (t.resultCode ≠ .ok ∧ t.resultCode ≠ .noMatch))) ∧
  ∀ (e : Word) (s t : State), takeEvent e s = .next t →
    t.resultCode = s.resultCode ∧ t.resultOpcode = s.resultOpcode ∧ t.flag .cmdErr = s.flag .cmdErr

/-- R38, R410: a command or an event sets bits and clears none, and each bit that it sets has the cause the table of
R410 names. EVT_IGNORED is set by an ignored event alone (R404): one its state does not expect, which then sets that bit
and does nothing else. STATE_CHG and CMD_ERR have statements of their own, `StateChgExactlyOnChange` and
`ResultAndCmdErr`; a reserved event word, which no operation carries, has `ReservedEventOnlySetsIgnored`. -/
def Obligations.EachStatusBitHasItsCause : Prop :=
  ∀ (i : Instr) (s t : State), exec i s = .next t →
    (∀ b, s.flag b = true → t.flag b = true) ∧
    (s.flag .sendDone = false → t.flag .sendDone = true →
      i = .evtWriteDone true ∧ s.sess = .sending ∧ 4740 ≤ s.txOffset.toNat ∧ t.sess = .ready) ∧
    (s.flag .sendFail = false → t.flag .sendFail = true →
      s.sess = .sending ∧ (i = .evtWriteDone false ∨ i = .disconnect ∨ i = .evtLinkDown)) ∧
    (s.flag .evtIgnored = false → t.flag .evtIgnored = true →
      i.isEvent = true ∧ UnexpectedIn i s ∧ t = { s with intStatus := s.intStatus ||| 0x10#8 }) ∧
    (s.flag .scanHit = false → t.flag .scanHit = true → i = .evtScanHit ∧ s.scanActive = true) ∧
    (s.flag .notFound = false → t.flag .notFound = true →
      s.sess = .discovering ∧ t.sess = .failed ∧ ∃ svc chr, i = .evtDiscovery svc chr) ∧
    (s.flag .linkLost = false → t.flag .linkLost = true → i = .evtLinkDown)

/-- R42, R54 (e): over every input of the block (a host write of the register among them) only CONNECT and an MTU
result taken in NEGOTIATING_MTU write MTU; the reset input loads 23. -/
def Obligations.MtuChangesOnlyInConnectOrMtuResult : Prop :=
  ∀ s t : State, step s = .next t → MtuChangeHasCause s t

/-- R86, R105, R460: FRAME changes only in a SEND (or the reset input), so no host write, QUANTIZE or BMP_DECODE after
a SEND changes the frame being sent. -/
def Obligations.FrameWrittenOnlyBySend : Prop :=
  ∀ s t : State, step s = .next t → t.frame ≠ s.frame →
    ∃ rest, s.inputs = .reset :: rest ∨ CommandNext s 0x12#32 rest

/-- R324, over every step but the reset input: the request history only grows (R53), and a T_WRITE is added only by SEND
with none outstanding or by a successful acknowledgment of the one outstanding, one in a step; it is then the outstanding
one. -/
def Obligations.OneWriteOutstanding : Prop :=
  ∀ s t : State, s.Inv → step s = .next t → (∀ rest, s.inputs ≠ .reset :: rest) →
    ∃ new : List Request, t.requests = s.requests ++ new ∧ ∀ bs, Request.write bs ∈ new →
      new = [.write bs] ∧ t.inFlight = true ∧ t.inflightLen.toNat = bs.length ∧
      ∃ rest, (CommandNext s 0x12#32 rest ∧ s.inFlight = false) ∨ (s.inputs = .event 0x184#32 :: rest ∧ s.inFlight = true)

/-- R350: the transition table, for every state and every operation. -/
def Obligations.TransitionTable : Prop :=
  ∀ (i : Instr) (s t : State), s.Inv → exec i s = .next t → t.sess = tableState i s

/-- R404: an event the state does not expect, or a reserved event word, sets EVT_IGNORED and changes nothing else. -/
def Obligations.UnexpectedEventIgnored : Prop :=
  ∀ (s : State) (e : Word) (rest : List Input), s.inputs = .event e :: rest → Unexpected e s →
    step s = .next { s with inputs := rest, intStatus := s.intStatus ||| 0x10#8 }

/-- R285: a command that ends BUSY or NOT_READY changes RESULT and CMD_ERR and nothing else. -/
def Obligations.PreconditionFailureChangesNothingElse : Prop :=
  ∀ (i : Instr) (s t : State), i.isEvent = false → exec i s = .next t →
    t.resultCode = .busy ∨ t.resultCode = .notReady →
    t = { s with resultCode := t.resultCode, resultOpcode := t.resultOpcode, intStatus := s.intStatus ||| 0x08#8 }

/-! ## Commands and events, one by one -/

/-- R290. -/
def Obligations.NopResult : Prop :=
  ∀ s : State, exec .nop s = .next { s with resultCode := .ok, resultOpcode := 0x00#8 }

/-- R300. -/
def Obligations.ConnectResult : Prop :=
  ∀ s : State,
    (s.sess = .idle ∨ s.sess = .disconnected ∨ s.sess = .failed →
      exec .connect s = .next { s with
        requests := s.requests ++ (if s.scanActive = true then [.scanStop] else []) ++
          (if s.sess = .failed then [.disconnect] else []) ++ [.connect]
        scanActive := false, charValid := false, inFlight := false, inflightLen := 0#16, failCause := .noCause
        mtu := 23#16, sess := .connecting, intStatus := s.intStatus ||| 0x01#8
        resultCode := .ok, resultOpcode := 0x10#8 }) ∧
    (s.sess = .connecting ∨ s.sess = .negotiatingMtu ∨ s.sess = .discovering ∨ s.sess = .ready ∨ s.sess = .sending →
      exec .connect s = .next { s with
        resultCode := .busy, resultOpcode := 0x10#8, intStatus := s.intStatus ||| 0x08#8 })

/-- R301. -/
def Obligations.DisconnectResult : Prop :=
  ∀ s : State, exec .disconnect s = .next { s with
    requests := s.requests ++ (if s.sess = .idle ∨ s.sess = .disconnected then [] else [.disconnect])
    intStatus := s.intStatus ||| (if s.sess = .sending then 0x04#8 else 0#8) |||
      (if s.sess = .disconnected then 0#8 else 0x01#8)
    charValid := false, inFlight := false, inflightLen := 0#16, failCause := .noCause, sess := .disconnected
    resultCode := .ok, resultOpcode := 0x11#8 }

/-- R310. -/
def Obligations.EvtConnectedResult : Prop :=
  ∀ s : State,
    (s.sess = .connecting → exec .evtConnected s = .next { s with
      sess := .negotiatingMtu, requests := s.requests ++ [.requestMtu s.prefMtu]
      intStatus := s.intStatus ||| 0x01#8 }) ∧
    (s.sess ≠ .connecting → exec .evtConnected s = .next { s with intStatus := s.intStatus ||| 0x10#8 })

/-- R311. -/
def Obligations.EvtMtuResultResult : Prop :=
  ∀ (s : State) (granted : Bool) (value : Half),
    (s.sess = .negotiatingMtu → exec (.evtMtuResult granted value) s = .next { s with
      mtu := if granted = true then value else 23#16, sess := .discovering
      requests := s.requests ++ [.discover], intStatus := s.intStatus ||| 0x01#8 }) ∧
    (s.sess ≠ .negotiatingMtu →
      exec (.evtMtuResult granted value) s = .next { s with intStatus := s.intStatus ||| 0x10#8 })

/-- R312. -/
def Obligations.EvtDiscoveryResult : Prop :=
  ∀ (s : State) (svc chr : Bool),
    (s.sess = .discovering → svc = true ∧ chr = true → exec (.evtDiscovery svc chr) s = .next { s with
      charValid := true, sess := .ready, intStatus := s.intStatus ||| 0x01#8 }) ∧
    (s.sess = .discovering → ¬ (svc = true ∧ chr = true) → exec (.evtDiscovery svc chr) s = .next { s with
      charValid := false, failCause := if svc = false then .svcNotFound else .charNotFound, sess := .failed
      intStatus := s.intStatus ||| 0x41#8 }) ∧
    (s.sess ≠ .discovering →
      exec (.evtDiscovery svc chr) s = .next { s with intStatus := s.intStatus ||| 0x10#8 })

/-- R318, R320: SEND's result, its precondition failures, and what FRAME and the first write hold. -/
def Obligations.SendResult : Prop :=
  ∀ s : State,
    (s.charValid = true ∧ (s.sess = .ready ∨ (s.sess = .failed ∧ s.failCause = .sendNack)) →
      ∃ t, exec .send s = .next t ∧
        t = { s with
          frame := t.frame, draws := t.draws, sentTotal := 0#32, expectedTotal := 4740#32, failCause := .noCause
          requests := s.requests ++ [.write [0x46#8, 0x42#8, 0x80#8, 0x12#8]]
          inflightLen := 4#16, txOffset := 4#32, inFlight := true, sess := .sending
          intStatus := s.intStatus ||| 0x01#8, resultCode := .ok, resultOpcode := 0x12#8 } ∧
        t.frame.peek 0 = some 0x46#8 ∧ t.frame.peek 1 = some 0x42#8 ∧
        t.frame.peek 2 = some 0x80#8 ∧ t.frame.peek 3 = some 0x12#8 ∧
        (∀ i < 4736, t.frame.peek (4 + i) = some (fbRead s i)) ∧
        ∀ o, 4740 ≤ o → t.frame.peek o = s.frame.peek o) ∧
    (s.sess = .sending → exec .send s = .next { s with
      resultCode := .busy, resultOpcode := 0x12#8, intStatus := s.intStatus ||| 0x08#8 }) ∧
    (s.sess ≠ .sending →
      ¬ (s.charValid = true ∧ (s.sess = .ready ∨ (s.sess = .failed ∧ s.failCause = .sendNack))) →
      exec .send s = .next { s with
        resultCode := .notReady, resultOpcode := 0x12#8, intStatus := s.intStatus ||| 0x08#8 })

/-- R321. The slice of FRAME is what the step reads; TX_OFFSET is at most 4740 (R44). -/
def Obligations.EvtWriteDoneResult : Prop :=
  ∀ s : State,
    (s.sess = .sending → s.inFlight = true → s.txOffset.toNat < 4740 → ∃ t,
      exec (.evtWriteDone true) s = .next t ∧
      ∀ len, len = min (chunkSize s.mtu) (4740 - s.txOffset.toNat) →
        t = { s with
          draws := t.draws, sentTotal := s.sentTotal + s.inflightLen.setWidth 32
          requests := s.requests ++ [.write ((List.range len).map fun j =>
            s.frame.byteAt s.draws (s.txOffset.toNat + j))]
          inflightLen := BitVec.ofNat 16 len, txOffset := s.txOffset + BitVec.ofNat 32 len }) ∧
    (s.sess = .sending → s.inFlight = true → 4740 ≤ s.txOffset.toNat →
      exec (.evtWriteDone true) s = .next { s with
        sentTotal := s.sentTotal + s.inflightLen.setWidth 32, inFlight := false, inflightLen := 0#16
        sess := .ready, intStatus := s.intStatus ||| 0x03#8 }) ∧
    (s.sess = .sending → s.inFlight = true →
      exec (.evtWriteDone false) s = .next { s with
        inFlight := false, inflightLen := 0#16, failCause := .sendNack, sess := .failed
        intStatus := s.intStatus ||| 0x05#8 }) ∧
    ∀ ok, (s.sess ≠ .sending ∨ s.inFlight = false) →
      exec (.evtWriteDone ok) s = .next { s with intStatus := s.intStatus ||| 0x10#8 }

/-- R330. -/
def Obligations.ScanStartResult : Prop :=
  ∀ s : State,
    (s.sess = .idle ∨ s.sess = .disconnected → s.scanActive = false → exec .scanStart s = .next { s with
      scanHits := 0#32, scanActive := true, requests := s.requests ++ [.scanStart]
      resultCode := .ok, resultOpcode := 0x18#8 }) ∧
    (s.sess = .idle ∨ s.sess = .disconnected → s.scanActive = true → exec .scanStart s = .next { s with
      resultCode := .ok, resultOpcode := 0x18#8 }) ∧
    (¬ (s.sess = .idle ∨ s.sess = .disconnected) → exec .scanStart s = .next { s with
      resultCode := .busy, resultOpcode := 0x18#8, intStatus := s.intStatus ||| 0x08#8 })

/-- R331. -/
def Obligations.ScanStopResult : Prop :=
  ∀ s : State, exec .scanStop s = .next { s with
    requests := s.requests ++ (if s.scanActive = true then [.scanStop] else [])
    scanActive := false, resultCode := .ok, resultOpcode := 0x19#8 }

/-- R340. -/
def Obligations.EvtLinkDownResult : Prop :=
  ∀ s : State, exec .evtLinkDown s = .next { s with
    intStatus := s.intStatus ||| (if s.sess = .sending then 0x04#8 else 0#8) |||
      (if s.sess = .disconnected then 0#8 else 0x01#8) ||| 0x80#8
    charValid := false, inFlight := false, inflightLen := 0#16, failCause := .linkLost, sess := .disconnected }

/-- R345. -/
def Obligations.EvtScanHitResult : Prop :=
  ∀ s : State,
    (s.scanActive = true → exec .evtScanHit s = .next { s with
      scanHits := BitVec.ofNat 32 ((s.scanHits.toNat + 1) % 2 ^ 32), intStatus := s.intStatus ||| 0x20#8 }) ∧
    (s.scanActive = false → exec .evtScanHit s = .next { s with intStatus := s.intStatus ||| 0x10#8 })

/-! ## Quantizer -/

/-- R16, R203, R204, R214: any matrix is tiled over the canvas by (y mod 4, x mod 4), a pixel's threshold is R204's of
its matrix value, between 68 and 188, and under the default matrix, which reset leaves, it is the tile's. -/
def Obligations.ThresholdTile : Prop :=
  (∀ m : Nat, ((threshold m : Nat) : ℚ) = 128 + (16 * (m : ℚ) - 120) / 2) ∧
  (∀ (matrix : BayerMatrix) (x y : Nat) (row col : Fin 4), y % 4 = row → x % 4 = col →
    bayer matrix x y = matrix[row][col] ∧ 68 ≤ threshold (bayer matrix x y) ∧ threshold (bayer matrix x y) ≤ 188) ∧
  ∀ x y : Nat, threshold (bayer State.reset.bayer4 x y) = tileThreshold x y

/-- R210 with R201, R204, R205, R206, R208: every pixel of FB after QUANTIZE, under any Bayer matrix, everything else
unchanged, and BAD_ARG. -/
def Obligations.QuantizeResult : Prop :=
  ∀ s : State,
    (s.qgamma ≠ 0#16 → ∃ t, exec .quantize s = .next t ∧
      t = { s with mem := t.mem, draws := t.draws, resultCode := .ok, resultOpcode := 0x01#8 } ∧
      (∀ a, ¬ InFb a → t.mem.peek a = s.mem.peek a) ∧
      ∀ x < 128, ∀ y < 296, ∃ b, t.mem.peek (0x10000 + (16 * y + x / 8)) = some b ∧
        ∀ S T, S = 299 * (canvasRead s x y 0).toNat + 587 * (canvasRead s x y 1).toNat +
            114 * (canvasRead s x y 2).toNat → T = 68 + 8 * (bayer s.bayer4 x y).val →
          (b.getLsbD (7 - x % 8) = true ↔
            S ^ 256 * 255 ^ s.qgamma.toNat < T ^ s.qgamma.toNat * 255000 ^ 256)) ∧
    (s.qgamma = 0#16 → exec .quantize s = .next { s with
      resultCode := .badArg, resultOpcode := 0x01#8, intStatus := s.intStatus ||| 0x08#8 })

/-- R207: at gamma 1.0 the decision is `S < 1000·T`, with T = 68 + 8m a comparison of the channels. -/
def Obligations.GammaOneDecision : Prop :=
  (∀ S T : Nat, isBlack 256 S T = true ↔ S < 1000 * T) ∧
  ∀ (r g b : Byte) (m : Nat), isBlack 256 (lumaSum r g b) (threshold m) = true ↔
    299 * r.toNat + 587 * g.toNat + 114 * b.toNat < 68000 + 8000 * m

/-- R202, R205, R206: the integer form decides the real comparison `255·(Y/255)^(1/γ) < T` with Y = S/1000 and
γ = g/256. -/
def Obligations.IntegerFormIsRealComparison : Prop :=
  ∀ g S T : Nat, 1 ≤ g → (isBlack g S T = true ↔
    (255 : ℝ) * (((S : ℝ) / 1000) / 255) ^ ((1 : ℝ) / ((g : ℝ) / 256)) < (T : ℝ))

/-- R213: all white gives 4736 bytes 0x00 and all black 4736 bytes 0xFF, at every gamma above 0, under any matrix. -/
def Obligations.WhiteAndBlackCanvas : Prop :=
  ∀ s : State, s.qgamma ≠ 0#16 →
    ((∀ x < 128, ∀ y < 296, ∀ c < 3, canvasRead s x y c = 255#8) →
      ∃ t, exec .quantize s = .next t ∧ ∀ i < 4736, t.mem.peek (0x10000 + i) = some 0x00#8) ∧
    ((∀ x < 128, ∀ y < 296, ∀ c < 3, canvasRead s x y c = 0#8) →
      ∃ t, exec .quantize s = .next t ∧ ∀ i < 4736, t.mem.peek (0x10000 + i) = some 0xFF#8)

/-- R200, R209, R211: FB after QUANTIZE depends on the R, G and B bytes read and on QGAMMA, and on nothing else of the
state. The matrix is the block's parameter, one for both (R16, log 21). -/
def Obligations.QuantizeReadsOnlyColourAndGamma : Prop :=
  ∀ s s' : State, s.bayer4 = s'.bayer4 → s.qgamma = s'.qgamma → s.qgamma ≠ 0#16 →
    (∀ x < 128, ∀ y < 296, ∀ c < 3, canvasRead s x y c = canvasRead s' x y c) →
    ∃ t t', exec .quantize s = .next t ∧ exec .quantize s' = .next t' ∧
      ∀ i < 4736, t.mem.peek (0x10000 + i) = t'.mem.peek (0x10000 + i) ∧ t.mem.peek (0x10000 + i) ≠ none

/-! ## Codec -/

/-- R236, R237. -/
def Obligations.UnpackResult : Prop :=
  ∀ s : State, ∃ t, exec .unpack s = .next t ∧
    t = { s with mem := t.mem, draws := t.draws, resultCode := .ok, resultOpcode := 0x02#8 } ∧
    (∀ a, ¬ InCanvas a → t.mem.peek a = s.mem.peek a) ∧
    ∀ x < 128, ∀ y < 296, ∀ v : Byte,
      v = (if (fbRead s (16 * y + x / 8)).getLsbD (7 - x % 8) = true then 0#8 else 255#8) →
      t.mem.peek (0x40000 + 4 * (128 * y + x)) = some v ∧
      t.mem.peek (0x40000 + 4 * (128 * y + x) + 1) = some v ∧
      t.mem.peek (0x40000 + 4 * (128 * y + x) + 2) = some v ∧
      t.mem.peek (0x40000 + 4 * (128 * y + x) + 3) = some 255#8

/-- R215: UNPACK and then QUANTIZE bring FB back, at every gamma above 0 and under any matrix. -/
def Obligations.UnpackThenQuantizeRestoresFb : Prop :=
  ∀ s : State, s.qgamma ≠ 0#16 → ∃ t u, exec .unpack s = .next t ∧ exec .quantize t = .next u ∧
    ∀ i < 4736, u.mem.peek (0x10000 + i) = some (fbRead s i)

/-- R232, R240, R241: the fields of the header as the "encode writes" column gives them, the row data, the rest. -/
def Obligations.EncodeResult : Prop :=
  ∀ s : State, ∃ t, exec .bmpEncode s = .next t ∧
    t = { s with
      mem := t.mem, draws := t.draws, fileLen := 4798#32, resultCode := .ok, resultOpcode := 0x03#8 } ∧
    (∀ a, ¬ InEncoded a → t.mem.peek a = s.mem.peek a) ∧
    (∀ a, InEncoded a → t.mem.peek a ≠ none) ∧
    fileRead t 0 = 0x42#8 ∧ fileRead t 1 = 0x4D#8 ∧ le32 (fileRead t) 2 = 4798 ∧ le32 (fileRead t) 6 = 0 ∧
    le32 (fileRead t) 10 = 62 ∧ le32 (fileRead t) 14 = 40 ∧ le32 (fileRead t) 18 = 128 ∧
    le32 (fileRead t) 22 = 2 ^ 32 - 296 ∧ le16 (fileRead t) 26 = 1 ∧ le16 (fileRead t) 28 = 1 ∧
    le32 (fileRead t) 30 = 0 ∧ le32 (fileRead t) 34 = 4736 ∧ le32 (fileRead t) 38 = 2835 ∧
    le32 (fileRead t) 42 = 2835 ∧ le32 (fileRead t) 46 = 2 ∧ le32 (fileRead t) 50 = 0 ∧
    le32 (fileRead t) 54 = 0x00FFFFFF ∧ le32 (fileRead t) 58 = 0 ∧
    ∀ r < 296, ∀ b < 16, t.mem.peek (0x20000 + 62 + 16 * r + b) = some (fbRead s (16 * r + b))

/-- R250 to R255: BMP_DECODE matches exactly the files the checks describe, writes their rows top to bottom, and
otherwise leaves FB alone. FILE and FILE_LEN never change. -/
def Obligations.DecodeResult : Prop :=
  ∀ s : State,
    (FileMatches (fileRead s) s.fileLen.toNat → ∃ t, exec .bmpDecode s = .next t ∧
      t = { s with mem := t.mem, draws := t.draws, resultCode := .ok, resultOpcode := 0x04#8 } ∧
      (∀ a, ¬ InFb a → t.mem.peek a = s.mem.peek a) ∧
      ∀ r < 296, ∀ b < 16, t.mem.peek (0x10000 + 16 * r + b) =
        some (fileRead s (le32 (fileRead s) 10 + 16 * fileRow (fileRead s) r + b))) ∧
    (¬ FileMatches (fileRead s) s.fileLen.toNat → ∃ t, exec .bmpDecode s = .next t ∧
      t = { s with draws := t.draws, resultCode := .noMatch, resultOpcode := 0x04#8 })

/-- R256: BMP_ENCODE and then BMP_DECODE leave FB as the encoder read it. -/
def Obligations.EncodeThenDecodeRoundTrip : Prop :=
  ∀ s : State, ∃ t u, exec .bmpEncode s = .next t ∧ exec .bmpDecode t = .next u ∧ u.resultCode = .ok ∧
    ∀ i < 4736, u.mem.peek (0x10000 + i) = some (fbRead s i)

/-- R257: re-encoding a decoded file keeps every pixel, its row order made top-down. -/
def Obligations.ReencodeKeepsPixels : Prop :=
  ∀ s : State, FileMatches (fileRead s) s.fileLen.toNat →
    ∃ t u, exec .bmpDecode s = .next t ∧ exec .bmpEncode t = .next u ∧
      le32 (fileRead u) 10 = 62 ∧ FileMatches (fileRead u) u.fileLen.toNat ∧ fileRow (fileRead u) = id ∧
      ∀ r < 296, ∀ b < 16, u.mem.peek (0x20000 + 62 + 16 * r + b) =
        some (fileRead s (le32 (fileRead s) 10 + 16 * fileRow (fileRead s) r + b))

/-! ## The host bus -/

/-- R402, R403: which error an access ends with, by the order UNMAPPED, WIDTH, MISALIGNED, and that it changes nothing;
a read that errors returns 0. The response list and the input list are the model's own (log 1, log 6). -/
def Obligations.BusErrorsChangeNothing : Prop :=
  ∀ (s : State) (x : BusAccess) (rest : List Input) (addr : Word) (w : Width),
    s.inputs = .host x :: rest → (x = .read addr w ∨ ∃ v, x = .write addr w v) →
    ∀ k : BusErrorKind,
      (k = .unmapped ∧ ¬ InPage addr.toNat w.bytes ∧ ¬ InBuffer addr.toNat w.bytes) ∨
      (k = .width ∧ InPage addr.toNat w.bytes ∧ w ≠ .b32) ∨
      (k = .misaligned ∧ ((InPage addr.toNat w.bytes ∧ w = .b32) ∨ InBuffer addr.toNat w.bytes) ∧
        addr.toNat % w.bytes ≠ 0) →
      step s = .next { s with inputs := rest, responses := s.responses ++ [.error k] } ∧
      (BusResponse.error k).readData = 0#32

/-- R88: a write to a buffer stores its bytes little-endian and nothing else; a read of a buffer, of any size, puts its
bytes together the same way; so the next read of the same place and size returns the data written. The model's own (log 15):
`v` is any 32-bit data, and of data wider than the access the higher bits are ignored. So are the draw counter that a
buffer read moves on (log 3), the inputs still pending (log 1) and the answers recorded (log 6). -/
def Obligations.BufferAccessLittleEndian : Prop :=
  ∀ (s : State) (addr : Word) (w : Width) (rest : List Input),
    InBuffer addr.toNat w.bytes → addr.toNat % w.bytes = 0 →
    (s.inputs = .host (.read addr w) :: rest → ∃ v : Word, v.toNat =
        ((List.range w.bytes).map fun i => (s.mem.byteAt s.draws (addr.toNat + i)).toNat * 256 ^ i).sum ∧
      step s = .next { s with inputs := rest, responses := s.responses ++ [.data v], draws := s.draws + 1 }) ∧
    ∀ v : Word, s.inputs = .host (.write addr w v) :: .host (.read addr w) :: rest →
      ∃ t u, step s = .next t ∧ step t = .next u ∧
        t = { s with
          mem := t.mem, inputs := .host (.read addr w) :: rest, responses := s.responses ++ [.done] } ∧
        (∀ i < w.bytes, t.mem.peek (addr.toNat + i) = some (BitVec.ofNat 8 (v.toNat / 256 ^ i))) ∧
        (∀ a, a < addr.toNat ∨ addr.toNat + w.bytes ≤ a → t.mem.peek a = s.mem.peek a) ∧
        u = { t with
          draws := u.draws, inputs := rest
          responses := t.responses ++ [.data (BitVec.ofNat 32 (v.toNat % 256 ^ w.bytes))] }

/-- R93: a read changes no state of the block. The answer, the input used up and the draw counter are the model's own
fields (log 1, log 3, log 6). -/
def Obligations.ReadsChangeNothing : Prop :=
  ∀ (s : State) (addr : Word) (w : Width) (rest : List Input), s.inputs = .host (.read addr w) :: rest →
    ∃ t r, step s = .next t ∧
      t = { s with inputs := rest, responses := s.responses ++ [r], draws := t.draws }

/-- R33 to R35, R38 to R50: what a 32-bit read of each register returns, field by field. The input used up and the answer recorded
are the model's own (log 1, log 6), and so is a QUEUE_LEFT of 0 in SENDING with TX_OFFSET above 4740, where no run leads
(log 14). -/
def Obligations.RegisterPageReads : Prop :=
  ∀ (s : State) (off : Word) (rest : List Input), s.inputs = .host (.read off .b32) :: rest →
    off.toNat < 0x100 → off.toNat % 4 = 0 → ∃ v : Word,
      step s = .next { s with inputs := rest, responses := s.responses ++ [.data v] } ∧
      (off = 0x000#32 → v = 0#32) ∧
      (off = 0x004#32 → v.toNat = s.resultCode.code.toNat + 2 ^ 8 * s.resultOpcode.toNat) ∧
      (off = 0x008#32 → v.toNat = s.sess.code.toNat + 2 ^ 4 * s.failCause.code.toNat +
        2 ^ 8 * s.charValid.toNat + 2 ^ 9 * s.inFlight.toNat + 2 ^ 10 * s.scanActive.toNat) ∧
      (off = 0x00C#32 → v.toNat = s.intStatus.toNat) ∧ (off = 0x010#32 → v.toNat = s.intEnable.toNat) ∧
      (off = 0x014#32 → v.toNat = s.qgamma.toNat) ∧ (off = 0x018#32 → v.toNat = s.prefMtu.toNat) ∧
      (off = 0x01C#32 → v.toNat = s.mtu.toNat) ∧ (off = 0x020#32 → v.toNat = chunkSize s.mtu) ∧
      (off = 0x024#32 → v = s.sentTotal) ∧ (off = 0x028#32 → v = s.expectedTotal) ∧
      (off = 0x02C#32 → v = s.txOffset) ∧ (off = 0x030#32 → v.toNat = s.inflightLen.toNat) ∧
      (off = 0x034#32 → v.toNat =
        if s.sess = .sending then ceilDiv (4740 - s.txOffset.toNat) (chunkSize s.mtu) else 0) ∧
      (off = 0x038#32 → v = s.fileLen) ∧ (off = 0x03C#32 → v = s.scanHits) ∧
      (off = 0x040#32 → v = 0x01280080#32) ∧ (off = 0x044#32 → v = 0x00001280#32) ∧
      (off = 0x048#32 → v = 0x00002000#32) ∧ (0x04C ≤ off.toNat → v = 0#32)

/-- R47: QUEUE_LEFT, the value a 32-bit read of its offset returns (`RegisterPageReads`). -/
def Obligations.QueueLeftReads : Prop :=
  ∀ (s : State), s.Inv →
    (s.sess ≠ .sending → s.readReg 0x034 = 0#32) ∧
    (s.sess = .sending → ∀ q : Nat, (s.readReg 0x034).toNat = q →
      4740 - s.txOffset.toNat ≤ q * chunkSize s.mtu ∧ q * chunkSize s.mtu < 4740 - s.txOffset.toNat + chunkSize s.mtu)

/-- What a 32-bit write of each register does: CMD runs a command (R33), INT_STATUS clears and RW registers store their
defined bits (R92), FILE_LEN a legal length (R48), every other offset ignores it (R92, R50); no such write is an error.
The answer recorded, for CMD before the command runs (log 6), and the input used up (log 1) are the model's own. -/
def Obligations.RegisterPageWrites : Prop :=
  ∀ (s : State) (off v : Word) (rest : List Input), s.inputs = .host (.write off .b32 v) :: rest →
    off.toNat < 0x100 → off.toNat % 4 = 0 →
    (off = 0#32 → step s = runCommand v { s with inputs := rest, responses := s.responses ++ [.done] }) ∧
    (off ≠ 0#32 → step s = .next { s with
      inputs := rest, responses := s.responses ++ [.done]
      intStatus := if off = 0x00C#32 then s.intStatus &&& ~~~(BitVec.ofNat 8 v.toNat) else s.intStatus
      intEnable := if off = 0x010#32 then BitVec.ofNat 8 v.toNat else s.intEnable
      qgamma := if off = 0x014#32 then BitVec.ofNat 16 v.toNat else s.qgamma
      prefMtu := if off = 0x018#32 then BitVec.ofNat 16 v.toNat else s.prefMtu
      fileLen := if off = 0x038#32 then BitVec.ofNat 32 (min v.toNat 8192) else s.fileLen })

/-- R410: the interrupt output is the OR over the eight bits. -/
def Obligations.IrqIsOrOfEnabledBits : Prop :=
  ∀ s : State, s.irq = true ↔ ∃ i < 8, s.intStatus.getLsbD i = true ∧ s.intEnable.getLsbD i = true

/-! ## Sends -/

/-- R281. -/
def Obligations.ChunkSizeClamp : Prop :=
  ∀ mtu : Half, (mtu.toNat ≤ 23 → chunkSize mtu = 20) ∧ (247 ≤ mtu.toNat → chunkSize mtu = 244) ∧
    (23 ≤ mtu.toNat → mtu.toNat ≤ 247 → chunkSize mtu = mtu.toNat - 3)

/-- R323: a row is MTU, chunk size, payload chunks, total writes, bytes of the last chunk. -/
def Obligations.ChunkCountsAtSampleMtus : Prop :=
  ∀ row ∈ [(0, 20, 237, 238, 16), (3, 20, 237, 238, 16), (22, 20, 237, 238, 16), (23, 20, 237, 238, 16),
      (24, 21, 226, 227, 11), (100, 97, 49, 50, 80), (131, 128, 37, 38, 128), (185, 182, 27, 28, 4),
      (247, 244, 20, 21, 100), (248, 244, 20, 21, 100), (517, 244, 20, 21, 100), (65535, 244, 20, 21, 100)],
    chunkSize (BitVec.ofNat 16 row.1) = row.2.1 ∧ ceilDiv 4736 row.2.1 = row.2.2.1 ∧
    4736 - (row.2.2.1 - 1) * row.2.1 = row.2.2.2.2 ∧
    ∀ s : State, (chunkQueue row.2.1 (framePayload s)).length = row.2.2.2.1

/-- R319: the chunks of a send, cut from the frame's bytes: how many, how long, and that they are the whole frame. -/
def Obligations.ChunksCoverFrame : Prop :=
  ∀ (s : State) (mtu : Half), ∀ c n, c = chunkSize mtu → n = ceilDiv 4736 c →
    (chunkQueue c (framePayload s)).length = n + 1 ∧
    (chunkQueue c (framePayload s)).flatten = framePayload s ∧
    (chunkQueue c (framePayload s)).head? = some frameHeader ∧
    (∀ k, 1 ≤ k → k < n → ∃ bs, (chunkQueue c (framePayload s))[k]? = some bs ∧ bs.length = c) ∧
    ∃ last, (chunkQueue c (framePayload s))[n]? = some last ∧ last.length = 4736 - (n - 1) * c

/-- R322: one send from SEND to its end. With every acknowledgment a success it writes the whole chunk queue and ends in READY
with SENT_TOTAL = 4740; when the k-th is the first to fail it has written the first k chunks and ends in FAILED. -/
def Obligations.SendOutcomes : Prop :=
  ∀ s : State, s.charValid = true → s.sess = .ready ∨ (s.sess = .failed ∧ s.failCause = .sendNack) →
    ∀ c n, c = chunkSize s.mtu → n = ceilDiv 4736 c →
      (∃ t, execs (.send :: List.replicate (n + 1) (.evtWriteDone true)) s = .next t ∧
        t.sess = .ready ∧ t.sentTotal = 4740#32 ∧ t.expectedTotal = 4740#32 ∧ t.inFlight = false ∧
        t.requests = s.requests ++ (chunkQueue c (framePayload s)).map .write) ∧
      ∀ k, 1 ≤ k → k ≤ n + 1 → ∃ t,
        execs (.send :: List.replicate (k - 1) (.evtWriteDone true) ++ [.evtWriteDone false]) s = .next t ∧
        t.sess = .failed ∧ t.failCause = .sendNack ∧ t.queueLeft = 0 ∧
        t.sentTotal.toNat = (if k = 1 then 0 else 4 + (k - 2) * c) ∧
        t.requests = s.requests ++ ((chunkQueue c (framePayload s)).take k).map .write

/-! ## The configuration parameter -/

/-- R16, R203: the Bayer matrix is a parameter of the block, held in State (log 21): no step changes it, whatever its
input, reset among them. -/
def Obligations.MatrixNeverChanges : Prop := ∀ s t : State, step s = .next t → t.bayer4 = s.bayer4
end

