-- ==== Sys2Proof/Laws/Decode.lean ====
section
/-! SUPPORT. Words and their fields as numbers, and which port a decoded word is for. -/

namespace Sys2Proof

/-- A 32-bit table word is the word itself. -/
@[simp] theorem tableWord_toNat (w : Word) : tableWord 32 w.toNat = w := by
  unfold tableWord
  rw [Nat.mod_eq_of_lt w.isLt]
  simp

theorem lowByte_toNat (w : Word) : (lowByte w).toNat = w.toNat % 256 := by
  simp [lowByte, BitVec.extractLsb'_toNat]

theorem lowByte_eq (w : Word) : lowByte w = BitVec.ofNat 8 w.toNat := by
  apply BitVec.eq_of_toNat_eq
  rw [lowByte_toNat]
  simp

theorem reservedField_toNat (w : Word) : (reservedField w).toNat = w.toNat / 256 := by
  have := w.isLt
  simp [reservedField, BitVec.extractLsb'_toNat, Nat.shiftRight_eq_div_pow]
  omega

/-- Bit 7 of a command the block knows is 0 (30_encoding.md R122). -/
theorem isEventWord_of_decodeCmd {w : Word} {i : Instr} (h : decodeCmd w = .ok i) : isEventWord w = false := by
  have h7 : w.getLsbD 7 = (lowByte w).getLsbD 7 := by simp [lowByte]
  rw [isEventWord, h7]
  unfold decodeCmd at h
  repeat' split at h
  all_goals first | (cases h; done) | (rename_i hh; rw [hh]; decide)

/-- Bit 7 of an event the block knows is 1 (30_encoding.md R126). -/
theorem isEventWord_of_decodeEvt {e : Word} {i : Instr} (h : decodeEvt e = .ok i) : isEventWord e = true := by
  have k : ∀ m v : Word, m.getLsbD 7 = true → e &&& m = v → e.getLsbD 7 = v.getLsbD 7 := by
    intro m v hm h
    rw [← h]
    simp [hm]
  rw [isEventWord]
  unfold decodeEvt at h
  repeat' split at h
  all_goals first | (cases h; done) | (rename_i hh; rw [k _ _ (by decide) hh]; decide)

/-- Commands are decoded only to commands. -/
theorem decodeCmd_isEvent {w : Word} {i : Instr} (h : decodeCmd w = .ok i) : i.isEvent = false := by
  unfold decodeCmd at h
  repeat' split at h
  all_goals first | (cases h; rfl) | cases h

/-- Events are decoded only to events. -/
theorem decodeEvt_isEvent {e : Word} {i : Instr} (h : decodeEvt e = .ok i) : i.isEvent = true := by
  unfold decodeEvt at h
  repeat' split at h
  all_goals first | (cases h; rfl) | cases h

end Sys2Proof
end

