-- ==== Sys2Proof/Laws/State.lean ====
section
/-! SUPPORT. For each named update of State, what each field reads afterwards: one lemma per field per update. A rewrite
by these says what an update changes and that it changes nothing else, so no later proof unfolds a record update. -/

namespace Sys2Proof.Machine

/-! ## State.raise -/

@[simp] theorem State.raise_resultCode (s : State) (b : IntBit) : (s.raise b).resultCode = s.resultCode := rfl
@[simp] theorem State.raise_resultOpcode (s : State) (b : IntBit) : (s.raise b).resultOpcode = s.resultOpcode := rfl
@[simp] theorem State.raise_sess (s : State) (b : IntBit) : (s.raise b).sess = s.sess := rfl
@[simp] theorem State.raise_failCause (s : State) (b : IntBit) : (s.raise b).failCause = s.failCause := rfl
@[simp] theorem State.raise_charValid (s : State) (b : IntBit) : (s.raise b).charValid = s.charValid := rfl
@[simp] theorem State.raise_inFlight (s : State) (b : IntBit) : (s.raise b).inFlight = s.inFlight := rfl
@[simp] theorem State.raise_scanActive (s : State) (b : IntBit) : (s.raise b).scanActive = s.scanActive := rfl
@[simp] theorem State.raise_intStatus (s : State) (b : IntBit) : (s.raise b).intStatus = s.intStatus ||| b.mask := rfl
@[simp] theorem State.raise_intEnable (s : State) (b : IntBit) : (s.raise b).intEnable = s.intEnable := rfl
@[simp] theorem State.raise_qgamma (s : State) (b : IntBit) : (s.raise b).qgamma = s.qgamma := rfl
@[simp] theorem State.raise_prefMtu (s : State) (b : IntBit) : (s.raise b).prefMtu = s.prefMtu := rfl
@[simp] theorem State.raise_mtu (s : State) (b : IntBit) : (s.raise b).mtu = s.mtu := rfl
@[simp] theorem State.raise_sentTotal (s : State) (b : IntBit) : (s.raise b).sentTotal = s.sentTotal := rfl
@[simp] theorem State.raise_expectedTotal (s : State) (b : IntBit) : (s.raise b).expectedTotal = s.expectedTotal := rfl
@[simp] theorem State.raise_txOffset (s : State) (b : IntBit) : (s.raise b).txOffset = s.txOffset := rfl
@[simp] theorem State.raise_inflightLen (s : State) (b : IntBit) : (s.raise b).inflightLen = s.inflightLen := rfl
@[simp] theorem State.raise_fileLen (s : State) (b : IntBit) : (s.raise b).fileLen = s.fileLen := rfl
@[simp] theorem State.raise_scanHits (s : State) (b : IntBit) : (s.raise b).scanHits = s.scanHits := rfl
@[simp] theorem State.raise_mem (s : State) (b : IntBit) : (s.raise b).mem = s.mem := rfl
@[simp] theorem State.raise_frame (s : State) (b : IntBit) : (s.raise b).frame = s.frame := rfl
@[simp] theorem State.raise_requests (s : State) (b : IntBit) : (s.raise b).requests = s.requests := rfl
@[simp] theorem State.raise_responses (s : State) (b : IntBit) : (s.raise b).responses = s.responses := rfl
@[simp] theorem State.raise_inputs (s : State) (b : IntBit) : (s.raise b).inputs = s.inputs := rfl
@[simp] theorem State.raise_draws (s : State) (b : IntBit) : (s.raise b).draws = s.draws := rfl
@[simp] theorem State.raise_bayer4 (s : State) (b : IntBit) : (s.raise b).bayer4 = s.bayer4 := rfl

/-! ## State.clearFlags -/

@[simp] theorem State.clearFlags_resultCode (s : State) (w : Word) : (s.clearFlags w).resultCode = s.resultCode := rfl
@[simp] theorem State.clearFlags_resultOpcode (s : State) (w : Word) : (s.clearFlags w).resultOpcode = s.resultOpcode := rfl
@[simp] theorem State.clearFlags_sess (s : State) (w : Word) : (s.clearFlags w).sess = s.sess := rfl
@[simp] theorem State.clearFlags_failCause (s : State) (w : Word) : (s.clearFlags w).failCause = s.failCause := rfl
@[simp] theorem State.clearFlags_charValid (s : State) (w : Word) : (s.clearFlags w).charValid = s.charValid := rfl
@[simp] theorem State.clearFlags_inFlight (s : State) (w : Word) : (s.clearFlags w).inFlight = s.inFlight := rfl
@[simp] theorem State.clearFlags_scanActive (s : State) (w : Word) : (s.clearFlags w).scanActive = s.scanActive := rfl
@[simp] theorem State.clearFlags_intStatus (s : State) (w : Word) : (s.clearFlags w).intStatus = s.intStatus &&& ~~~(w.setWidth 8) := rfl
@[simp] theorem State.clearFlags_intEnable (s : State) (w : Word) : (s.clearFlags w).intEnable = s.intEnable := rfl
@[simp] theorem State.clearFlags_qgamma (s : State) (w : Word) : (s.clearFlags w).qgamma = s.qgamma := rfl
@[simp] theorem State.clearFlags_prefMtu (s : State) (w : Word) : (s.clearFlags w).prefMtu = s.prefMtu := rfl
@[simp] theorem State.clearFlags_mtu (s : State) (w : Word) : (s.clearFlags w).mtu = s.mtu := rfl
@[simp] theorem State.clearFlags_sentTotal (s : State) (w : Word) : (s.clearFlags w).sentTotal = s.sentTotal := rfl
@[simp] theorem State.clearFlags_expectedTotal (s : State) (w : Word) : (s.clearFlags w).expectedTotal = s.expectedTotal := rfl
@[simp] theorem State.clearFlags_txOffset (s : State) (w : Word) : (s.clearFlags w).txOffset = s.txOffset := rfl
@[simp] theorem State.clearFlags_inflightLen (s : State) (w : Word) : (s.clearFlags w).inflightLen = s.inflightLen := rfl
@[simp] theorem State.clearFlags_fileLen (s : State) (w : Word) : (s.clearFlags w).fileLen = s.fileLen := rfl
@[simp] theorem State.clearFlags_scanHits (s : State) (w : Word) : (s.clearFlags w).scanHits = s.scanHits := rfl
@[simp] theorem State.clearFlags_mem (s : State) (w : Word) : (s.clearFlags w).mem = s.mem := rfl
@[simp] theorem State.clearFlags_frame (s : State) (w : Word) : (s.clearFlags w).frame = s.frame := rfl
@[simp] theorem State.clearFlags_requests (s : State) (w : Word) : (s.clearFlags w).requests = s.requests := rfl
@[simp] theorem State.clearFlags_responses (s : State) (w : Word) : (s.clearFlags w).responses = s.responses := rfl
@[simp] theorem State.clearFlags_inputs (s : State) (w : Word) : (s.clearFlags w).inputs = s.inputs := rfl
@[simp] theorem State.clearFlags_draws (s : State) (w : Word) : (s.clearFlags w).draws = s.draws := rfl
@[simp] theorem State.clearFlags_bayer4 (s : State) (w : Word) : (s.clearFlags w).bayer4 = s.bayer4 := rfl

/-! ## State.draw -/

@[simp] theorem State.draw_resultCode (s : State) : (s.draw).resultCode = s.resultCode := rfl
@[simp] theorem State.draw_resultOpcode (s : State) : (s.draw).resultOpcode = s.resultOpcode := rfl
@[simp] theorem State.draw_sess (s : State) : (s.draw).sess = s.sess := rfl
@[simp] theorem State.draw_failCause (s : State) : (s.draw).failCause = s.failCause := rfl
@[simp] theorem State.draw_charValid (s : State) : (s.draw).charValid = s.charValid := rfl
@[simp] theorem State.draw_inFlight (s : State) : (s.draw).inFlight = s.inFlight := rfl
@[simp] theorem State.draw_scanActive (s : State) : (s.draw).scanActive = s.scanActive := rfl
@[simp] theorem State.draw_intStatus (s : State) : (s.draw).intStatus = s.intStatus := rfl
@[simp] theorem State.draw_intEnable (s : State) : (s.draw).intEnable = s.intEnable := rfl
@[simp] theorem State.draw_qgamma (s : State) : (s.draw).qgamma = s.qgamma := rfl
@[simp] theorem State.draw_prefMtu (s : State) : (s.draw).prefMtu = s.prefMtu := rfl
@[simp] theorem State.draw_mtu (s : State) : (s.draw).mtu = s.mtu := rfl
@[simp] theorem State.draw_sentTotal (s : State) : (s.draw).sentTotal = s.sentTotal := rfl
@[simp] theorem State.draw_expectedTotal (s : State) : (s.draw).expectedTotal = s.expectedTotal := rfl
@[simp] theorem State.draw_txOffset (s : State) : (s.draw).txOffset = s.txOffset := rfl
@[simp] theorem State.draw_inflightLen (s : State) : (s.draw).inflightLen = s.inflightLen := rfl
@[simp] theorem State.draw_fileLen (s : State) : (s.draw).fileLen = s.fileLen := rfl
@[simp] theorem State.draw_scanHits (s : State) : (s.draw).scanHits = s.scanHits := rfl
@[simp] theorem State.draw_mem (s : State) : (s.draw).mem = s.mem := rfl
@[simp] theorem State.draw_frame (s : State) : (s.draw).frame = s.frame := rfl
@[simp] theorem State.draw_requests (s : State) : (s.draw).requests = s.requests := rfl
@[simp] theorem State.draw_responses (s : State) : (s.draw).responses = s.responses := rfl
@[simp] theorem State.draw_inputs (s : State) : (s.draw).inputs = s.inputs := rfl
@[simp] theorem State.draw_draws (s : State) : (s.draw).draws = s.draws + 1 := rfl
@[simp] theorem State.draw_bayer4 (s : State) : (s.draw).bayer4 = s.bayer4 := rfl

/-! ## State.emit -/

@[simp] theorem State.emit_resultCode (s : State) (r : Request) : (s.emit r).resultCode = s.resultCode := rfl
@[simp] theorem State.emit_resultOpcode (s : State) (r : Request) : (s.emit r).resultOpcode = s.resultOpcode := rfl
@[simp] theorem State.emit_sess (s : State) (r : Request) : (s.emit r).sess = s.sess := rfl
@[simp] theorem State.emit_failCause (s : State) (r : Request) : (s.emit r).failCause = s.failCause := rfl
@[simp] theorem State.emit_charValid (s : State) (r : Request) : (s.emit r).charValid = s.charValid := rfl
@[simp] theorem State.emit_inFlight (s : State) (r : Request) : (s.emit r).inFlight = s.inFlight := rfl
@[simp] theorem State.emit_scanActive (s : State) (r : Request) : (s.emit r).scanActive = s.scanActive := rfl
@[simp] theorem State.emit_intStatus (s : State) (r : Request) : (s.emit r).intStatus = s.intStatus := rfl
@[simp] theorem State.emit_intEnable (s : State) (r : Request) : (s.emit r).intEnable = s.intEnable := rfl
@[simp] theorem State.emit_qgamma (s : State) (r : Request) : (s.emit r).qgamma = s.qgamma := rfl
@[simp] theorem State.emit_prefMtu (s : State) (r : Request) : (s.emit r).prefMtu = s.prefMtu := rfl
@[simp] theorem State.emit_mtu (s : State) (r : Request) : (s.emit r).mtu = s.mtu := rfl
@[simp] theorem State.emit_sentTotal (s : State) (r : Request) : (s.emit r).sentTotal = s.sentTotal := rfl
@[simp] theorem State.emit_expectedTotal (s : State) (r : Request) : (s.emit r).expectedTotal = s.expectedTotal := rfl
@[simp] theorem State.emit_txOffset (s : State) (r : Request) : (s.emit r).txOffset = s.txOffset := rfl
@[simp] theorem State.emit_inflightLen (s : State) (r : Request) : (s.emit r).inflightLen = s.inflightLen := rfl
@[simp] theorem State.emit_fileLen (s : State) (r : Request) : (s.emit r).fileLen = s.fileLen := rfl
@[simp] theorem State.emit_scanHits (s : State) (r : Request) : (s.emit r).scanHits = s.scanHits := rfl
@[simp] theorem State.emit_mem (s : State) (r : Request) : (s.emit r).mem = s.mem := rfl
@[simp] theorem State.emit_frame (s : State) (r : Request) : (s.emit r).frame = s.frame := rfl
@[simp] theorem State.emit_requests (s : State) (r : Request) : (s.emit r).requests = s.requests ++ [r] := rfl
@[simp] theorem State.emit_responses (s : State) (r : Request) : (s.emit r).responses = s.responses := rfl
@[simp] theorem State.emit_inputs (s : State) (r : Request) : (s.emit r).inputs = s.inputs := rfl
@[simp] theorem State.emit_draws (s : State) (r : Request) : (s.emit r).draws = s.draws := rfl
@[simp] theorem State.emit_bayer4 (s : State) (r : Request) : (s.emit r).bayer4 = s.bayer4 := rfl

/-! ## State.respond -/

@[simp] theorem State.respond_resultCode (s : State) (r : BusResponse) : (s.respond r).resultCode = s.resultCode := rfl
@[simp] theorem State.respond_resultOpcode (s : State) (r : BusResponse) : (s.respond r).resultOpcode = s.resultOpcode := rfl
@[simp] theorem State.respond_sess (s : State) (r : BusResponse) : (s.respond r).sess = s.sess := rfl
@[simp] theorem State.respond_failCause (s : State) (r : BusResponse) : (s.respond r).failCause = s.failCause := rfl
@[simp] theorem State.respond_charValid (s : State) (r : BusResponse) : (s.respond r).charValid = s.charValid := rfl
@[simp] theorem State.respond_inFlight (s : State) (r : BusResponse) : (s.respond r).inFlight = s.inFlight := rfl
@[simp] theorem State.respond_scanActive (s : State) (r : BusResponse) : (s.respond r).scanActive = s.scanActive := rfl
@[simp] theorem State.respond_intStatus (s : State) (r : BusResponse) : (s.respond r).intStatus = s.intStatus := rfl
@[simp] theorem State.respond_intEnable (s : State) (r : BusResponse) : (s.respond r).intEnable = s.intEnable := rfl
@[simp] theorem State.respond_qgamma (s : State) (r : BusResponse) : (s.respond r).qgamma = s.qgamma := rfl
@[simp] theorem State.respond_prefMtu (s : State) (r : BusResponse) : (s.respond r).prefMtu = s.prefMtu := rfl
@[simp] theorem State.respond_mtu (s : State) (r : BusResponse) : (s.respond r).mtu = s.mtu := rfl
@[simp] theorem State.respond_sentTotal (s : State) (r : BusResponse) : (s.respond r).sentTotal = s.sentTotal := rfl
@[simp] theorem State.respond_expectedTotal (s : State) (r : BusResponse) : (s.respond r).expectedTotal = s.expectedTotal := rfl
@[simp] theorem State.respond_txOffset (s : State) (r : BusResponse) : (s.respond r).txOffset = s.txOffset := rfl
@[simp] theorem State.respond_inflightLen (s : State) (r : BusResponse) : (s.respond r).inflightLen = s.inflightLen := rfl
@[simp] theorem State.respond_fileLen (s : State) (r : BusResponse) : (s.respond r).fileLen = s.fileLen := rfl
@[simp] theorem State.respond_scanHits (s : State) (r : BusResponse) : (s.respond r).scanHits = s.scanHits := rfl
@[simp] theorem State.respond_mem (s : State) (r : BusResponse) : (s.respond r).mem = s.mem := rfl
@[simp] theorem State.respond_frame (s : State) (r : BusResponse) : (s.respond r).frame = s.frame := rfl
@[simp] theorem State.respond_requests (s : State) (r : BusResponse) : (s.respond r).requests = s.requests := rfl
@[simp] theorem State.respond_responses (s : State) (r : BusResponse) : (s.respond r).responses = s.responses ++ [r] := rfl
@[simp] theorem State.respond_inputs (s : State) (r : BusResponse) : (s.respond r).inputs = s.inputs := rfl
@[simp] theorem State.respond_draws (s : State) (r : BusResponse) : (s.respond r).draws = s.draws := rfl
@[simp] theorem State.respond_bayer4 (s : State) (r : BusResponse) : (s.respond r).bayer4 = s.bayer4 := rfl

/-! ## State.result -/

@[simp] theorem State.result_resultCode (s : State) (op : Byte) (c : ResultCode) : (s.result op c).resultCode = c := rfl
@[simp] theorem State.result_resultOpcode (s : State) (op : Byte) (c : ResultCode) : (s.result op c).resultOpcode = op := rfl
@[simp] theorem State.result_sess (s : State) (op : Byte) (c : ResultCode) : (s.result op c).sess = s.sess := rfl
@[simp] theorem State.result_failCause (s : State) (op : Byte) (c : ResultCode) : (s.result op c).failCause = s.failCause := rfl
@[simp] theorem State.result_charValid (s : State) (op : Byte) (c : ResultCode) : (s.result op c).charValid = s.charValid := rfl
@[simp] theorem State.result_inFlight (s : State) (op : Byte) (c : ResultCode) : (s.result op c).inFlight = s.inFlight := rfl
@[simp] theorem State.result_scanActive (s : State) (op : Byte) (c : ResultCode) : (s.result op c).scanActive = s.scanActive := rfl
@[simp] theorem State.result_intStatus (s : State) (op : Byte) (c : ResultCode) : (s.result op c).intStatus = s.intStatus := rfl
@[simp] theorem State.result_intEnable (s : State) (op : Byte) (c : ResultCode) : (s.result op c).intEnable = s.intEnable := rfl
@[simp] theorem State.result_qgamma (s : State) (op : Byte) (c : ResultCode) : (s.result op c).qgamma = s.qgamma := rfl
@[simp] theorem State.result_prefMtu (s : State) (op : Byte) (c : ResultCode) : (s.result op c).prefMtu = s.prefMtu := rfl
@[simp] theorem State.result_mtu (s : State) (op : Byte) (c : ResultCode) : (s.result op c).mtu = s.mtu := rfl
@[simp] theorem State.result_sentTotal (s : State) (op : Byte) (c : ResultCode) : (s.result op c).sentTotal = s.sentTotal := rfl
@[simp] theorem State.result_expectedTotal (s : State) (op : Byte) (c : ResultCode) : (s.result op c).expectedTotal = s.expectedTotal := rfl
@[simp] theorem State.result_txOffset (s : State) (op : Byte) (c : ResultCode) : (s.result op c).txOffset = s.txOffset := rfl
@[simp] theorem State.result_inflightLen (s : State) (op : Byte) (c : ResultCode) : (s.result op c).inflightLen = s.inflightLen := rfl
@[simp] theorem State.result_fileLen (s : State) (op : Byte) (c : ResultCode) : (s.result op c).fileLen = s.fileLen := rfl
@[simp] theorem State.result_scanHits (s : State) (op : Byte) (c : ResultCode) : (s.result op c).scanHits = s.scanHits := rfl
@[simp] theorem State.result_mem (s : State) (op : Byte) (c : ResultCode) : (s.result op c).mem = s.mem := rfl
@[simp] theorem State.result_frame (s : State) (op : Byte) (c : ResultCode) : (s.result op c).frame = s.frame := rfl
@[simp] theorem State.result_requests (s : State) (op : Byte) (c : ResultCode) : (s.result op c).requests = s.requests := rfl
@[simp] theorem State.result_responses (s : State) (op : Byte) (c : ResultCode) : (s.result op c).responses = s.responses := rfl
@[simp] theorem State.result_inputs (s : State) (op : Byte) (c : ResultCode) : (s.result op c).inputs = s.inputs := rfl
@[simp] theorem State.result_draws (s : State) (op : Byte) (c : ResultCode) : (s.result op c).draws = s.draws := rfl
@[simp] theorem State.result_bayer4 (s : State) (op : Byte) (c : ResultCode) : (s.result op c).bayer4 = s.bayer4 := rfl

/-! ## State.reject -/

@[simp] theorem State.reject_resultCode (s : State) (op : Byte) (c : ResultCode) : (s.reject op c).resultCode = c := rfl
@[simp] theorem State.reject_resultOpcode (s : State) (op : Byte) (c : ResultCode) : (s.reject op c).resultOpcode = op := rfl
@[simp] theorem State.reject_sess (s : State) (op : Byte) (c : ResultCode) : (s.reject op c).sess = s.sess := rfl
@[simp] theorem State.reject_failCause (s : State) (op : Byte) (c : ResultCode) : (s.reject op c).failCause = s.failCause := rfl
@[simp] theorem State.reject_charValid (s : State) (op : Byte) (c : ResultCode) : (s.reject op c).charValid = s.charValid := rfl
@[simp] theorem State.reject_inFlight (s : State) (op : Byte) (c : ResultCode) : (s.reject op c).inFlight = s.inFlight := rfl
@[simp] theorem State.reject_scanActive (s : State) (op : Byte) (c : ResultCode) : (s.reject op c).scanActive = s.scanActive := rfl
@[simp] theorem State.reject_intStatus (s : State) (op : Byte) (c : ResultCode) : (s.reject op c).intStatus = s.intStatus ||| IntBit.cmdErr.mask := rfl
@[simp] theorem State.reject_intEnable (s : State) (op : Byte) (c : ResultCode) : (s.reject op c).intEnable = s.intEnable := rfl
@[simp] theorem State.reject_qgamma (s : State) (op : Byte) (c : ResultCode) : (s.reject op c).qgamma = s.qgamma := rfl
@[simp] theorem State.reject_prefMtu (s : State) (op : Byte) (c : ResultCode) : (s.reject op c).prefMtu = s.prefMtu := rfl
@[simp] theorem State.reject_mtu (s : State) (op : Byte) (c : ResultCode) : (s.reject op c).mtu = s.mtu := rfl
@[simp] theorem State.reject_sentTotal (s : State) (op : Byte) (c : ResultCode) : (s.reject op c).sentTotal = s.sentTotal := rfl
@[simp] theorem State.reject_expectedTotal (s : State) (op : Byte) (c : ResultCode) : (s.reject op c).expectedTotal = s.expectedTotal := rfl
@[simp] theorem State.reject_txOffset (s : State) (op : Byte) (c : ResultCode) : (s.reject op c).txOffset = s.txOffset := rfl
@[simp] theorem State.reject_inflightLen (s : State) (op : Byte) (c : ResultCode) : (s.reject op c).inflightLen = s.inflightLen := rfl
@[simp] theorem State.reject_fileLen (s : State) (op : Byte) (c : ResultCode) : (s.reject op c).fileLen = s.fileLen := rfl
@[simp] theorem State.reject_scanHits (s : State) (op : Byte) (c : ResultCode) : (s.reject op c).scanHits = s.scanHits := rfl
@[simp] theorem State.reject_mem (s : State) (op : Byte) (c : ResultCode) : (s.reject op c).mem = s.mem := rfl
@[simp] theorem State.reject_frame (s : State) (op : Byte) (c : ResultCode) : (s.reject op c).frame = s.frame := rfl
@[simp] theorem State.reject_requests (s : State) (op : Byte) (c : ResultCode) : (s.reject op c).requests = s.requests := rfl
@[simp] theorem State.reject_responses (s : State) (op : Byte) (c : ResultCode) : (s.reject op c).responses = s.responses := rfl
@[simp] theorem State.reject_inputs (s : State) (op : Byte) (c : ResultCode) : (s.reject op c).inputs = s.inputs := rfl
@[simp] theorem State.reject_draws (s : State) (op : Byte) (c : ResultCode) : (s.reject op c).draws = s.draws := rfl
@[simp] theorem State.reject_bayer4 (s : State) (op : Byte) (c : ResultCode) : (s.reject op c).bayer4 = s.bayer4 := rfl

/-! ## State.ignore -/

@[simp] theorem State.ignore_resultCode (s : State) : (s.ignore).resultCode = s.resultCode := rfl
@[simp] theorem State.ignore_resultOpcode (s : State) : (s.ignore).resultOpcode = s.resultOpcode := rfl
@[simp] theorem State.ignore_sess (s : State) : (s.ignore).sess = s.sess := rfl
@[simp] theorem State.ignore_failCause (s : State) : (s.ignore).failCause = s.failCause := rfl
@[simp] theorem State.ignore_charValid (s : State) : (s.ignore).charValid = s.charValid := rfl
@[simp] theorem State.ignore_inFlight (s : State) : (s.ignore).inFlight = s.inFlight := rfl
@[simp] theorem State.ignore_scanActive (s : State) : (s.ignore).scanActive = s.scanActive := rfl
@[simp] theorem State.ignore_intStatus (s : State) : (s.ignore).intStatus = s.intStatus ||| IntBit.evtIgnored.mask := rfl
@[simp] theorem State.ignore_intEnable (s : State) : (s.ignore).intEnable = s.intEnable := rfl
@[simp] theorem State.ignore_qgamma (s : State) : (s.ignore).qgamma = s.qgamma := rfl
@[simp] theorem State.ignore_prefMtu (s : State) : (s.ignore).prefMtu = s.prefMtu := rfl
@[simp] theorem State.ignore_mtu (s : State) : (s.ignore).mtu = s.mtu := rfl
@[simp] theorem State.ignore_sentTotal (s : State) : (s.ignore).sentTotal = s.sentTotal := rfl
@[simp] theorem State.ignore_expectedTotal (s : State) : (s.ignore).expectedTotal = s.expectedTotal := rfl
@[simp] theorem State.ignore_txOffset (s : State) : (s.ignore).txOffset = s.txOffset := rfl
@[simp] theorem State.ignore_inflightLen (s : State) : (s.ignore).inflightLen = s.inflightLen := rfl
@[simp] theorem State.ignore_fileLen (s : State) : (s.ignore).fileLen = s.fileLen := rfl
@[simp] theorem State.ignore_scanHits (s : State) : (s.ignore).scanHits = s.scanHits := rfl
@[simp] theorem State.ignore_mem (s : State) : (s.ignore).mem = s.mem := rfl
@[simp] theorem State.ignore_frame (s : State) : (s.ignore).frame = s.frame := rfl
@[simp] theorem State.ignore_requests (s : State) : (s.ignore).requests = s.requests := rfl
@[simp] theorem State.ignore_responses (s : State) : (s.ignore).responses = s.responses := rfl
@[simp] theorem State.ignore_inputs (s : State) : (s.ignore).inputs = s.inputs := rfl
@[simp] theorem State.ignore_draws (s : State) : (s.ignore).draws = s.draws := rfl
@[simp] theorem State.ignore_bayer4 (s : State) : (s.ignore).bayer4 = s.bayer4 := rfl

/-! ## State.retire -/

@[simp] theorem State.retire_resultCode (s : State) : (s.retire).resultCode = s.resultCode := rfl
@[simp] theorem State.retire_resultOpcode (s : State) : (s.retire).resultOpcode = s.resultOpcode := rfl
@[simp] theorem State.retire_sess (s : State) : (s.retire).sess = s.sess := rfl
@[simp] theorem State.retire_failCause (s : State) : (s.retire).failCause = s.failCause := rfl
@[simp] theorem State.retire_charValid (s : State) : (s.retire).charValid = s.charValid := rfl
@[simp] theorem State.retire_inFlight (s : State) : (s.retire).inFlight = false := rfl
@[simp] theorem State.retire_scanActive (s : State) : (s.retire).scanActive = s.scanActive := rfl
@[simp] theorem State.retire_intStatus (s : State) : (s.retire).intStatus = s.intStatus := rfl
@[simp] theorem State.retire_intEnable (s : State) : (s.retire).intEnable = s.intEnable := rfl
@[simp] theorem State.retire_qgamma (s : State) : (s.retire).qgamma = s.qgamma := rfl
@[simp] theorem State.retire_prefMtu (s : State) : (s.retire).prefMtu = s.prefMtu := rfl
@[simp] theorem State.retire_mtu (s : State) : (s.retire).mtu = s.mtu := rfl
@[simp] theorem State.retire_sentTotal (s : State) : (s.retire).sentTotal = s.sentTotal := rfl
@[simp] theorem State.retire_expectedTotal (s : State) : (s.retire).expectedTotal = s.expectedTotal := rfl
@[simp] theorem State.retire_txOffset (s : State) : (s.retire).txOffset = s.txOffset := rfl
@[simp] theorem State.retire_inflightLen (s : State) : (s.retire).inflightLen = 0#16 := rfl
@[simp] theorem State.retire_fileLen (s : State) : (s.retire).fileLen = s.fileLen := rfl
@[simp] theorem State.retire_scanHits (s : State) : (s.retire).scanHits = s.scanHits := rfl
@[simp] theorem State.retire_mem (s : State) : (s.retire).mem = s.mem := rfl
@[simp] theorem State.retire_frame (s : State) : (s.retire).frame = s.frame := rfl
@[simp] theorem State.retire_requests (s : State) : (s.retire).requests = s.requests := rfl
@[simp] theorem State.retire_responses (s : State) : (s.retire).responses = s.responses := rfl
@[simp] theorem State.retire_inputs (s : State) : (s.retire).inputs = s.inputs := rfl
@[simp] theorem State.retire_draws (s : State) : (s.retire).draws = s.draws := rfl
@[simp] theorem State.retire_bayer4 (s : State) : (s.retire).bayer4 = s.bayer4 := rfl

/-! ## State.dropLink -/

@[simp] theorem State.dropLink_resultCode (s : State) (c : FailCause) : (s.dropLink c).resultCode = s.resultCode := rfl
@[simp] theorem State.dropLink_resultOpcode (s : State) (c : FailCause) : (s.dropLink c).resultOpcode = s.resultOpcode := rfl
@[simp] theorem State.dropLink_sess (s : State) (c : FailCause) : (s.dropLink c).sess = s.sess := rfl
@[simp] theorem State.dropLink_failCause (s : State) (c : FailCause) : (s.dropLink c).failCause = c := rfl
@[simp] theorem State.dropLink_charValid (s : State) (c : FailCause) : (s.dropLink c).charValid = false := rfl
@[simp] theorem State.dropLink_inFlight (s : State) (c : FailCause) : (s.dropLink c).inFlight = false := rfl
@[simp] theorem State.dropLink_scanActive (s : State) (c : FailCause) : (s.dropLink c).scanActive = s.scanActive := rfl
@[simp] theorem State.dropLink_intStatus (s : State) (c : FailCause) : (s.dropLink c).intStatus = s.intStatus := rfl
@[simp] theorem State.dropLink_intEnable (s : State) (c : FailCause) : (s.dropLink c).intEnable = s.intEnable := rfl
@[simp] theorem State.dropLink_qgamma (s : State) (c : FailCause) : (s.dropLink c).qgamma = s.qgamma := rfl
@[simp] theorem State.dropLink_prefMtu (s : State) (c : FailCause) : (s.dropLink c).prefMtu = s.prefMtu := rfl
@[simp] theorem State.dropLink_mtu (s : State) (c : FailCause) : (s.dropLink c).mtu = s.mtu := rfl
@[simp] theorem State.dropLink_sentTotal (s : State) (c : FailCause) : (s.dropLink c).sentTotal = s.sentTotal := rfl
@[simp] theorem State.dropLink_expectedTotal (s : State) (c : FailCause) : (s.dropLink c).expectedTotal = s.expectedTotal := rfl
@[simp] theorem State.dropLink_txOffset (s : State) (c : FailCause) : (s.dropLink c).txOffset = s.txOffset := rfl
@[simp] theorem State.dropLink_inflightLen (s : State) (c : FailCause) : (s.dropLink c).inflightLen = 0#16 := rfl
@[simp] theorem State.dropLink_fileLen (s : State) (c : FailCause) : (s.dropLink c).fileLen = s.fileLen := rfl
@[simp] theorem State.dropLink_scanHits (s : State) (c : FailCause) : (s.dropLink c).scanHits = s.scanHits := rfl
@[simp] theorem State.dropLink_mem (s : State) (c : FailCause) : (s.dropLink c).mem = s.mem := rfl
@[simp] theorem State.dropLink_frame (s : State) (c : FailCause) : (s.dropLink c).frame = s.frame := rfl
@[simp] theorem State.dropLink_requests (s : State) (c : FailCause) : (s.dropLink c).requests = s.requests := rfl
@[simp] theorem State.dropLink_responses (s : State) (c : FailCause) : (s.dropLink c).responses = s.responses := rfl
@[simp] theorem State.dropLink_inputs (s : State) (c : FailCause) : (s.dropLink c).inputs = s.inputs := rfl
@[simp] theorem State.dropLink_draws (s : State) (c : FailCause) : (s.dropLink c).draws = s.draws := rfl
@[simp] theorem State.dropLink_bayer4 (s : State) (c : FailCause) : (s.dropLink c).bayer4 = s.bayer4 := rfl

/-! ## State.enterState -/

@[simp] theorem State.enterState_resultCode (s : State) (n : SessState) : (s.enterState n).resultCode = s.resultCode := by unfold State.enterState; split <;> simp_all
@[simp] theorem State.enterState_resultOpcode (s : State) (n : SessState) : (s.enterState n).resultOpcode = s.resultOpcode := by unfold State.enterState; split <;> simp_all
@[simp] theorem State.enterState_sess (s : State) (n : SessState) : (s.enterState n).sess = n := by unfold State.enterState; split <;> simp_all
@[simp] theorem State.enterState_failCause (s : State) (n : SessState) : (s.enterState n).failCause = s.failCause := by unfold State.enterState; split <;> simp_all
@[simp] theorem State.enterState_charValid (s : State) (n : SessState) : (s.enterState n).charValid = s.charValid := by unfold State.enterState; split <;> simp_all
@[simp] theorem State.enterState_inFlight (s : State) (n : SessState) : (s.enterState n).inFlight = s.inFlight := by unfold State.enterState; split <;> simp_all
@[simp] theorem State.enterState_scanActive (s : State) (n : SessState) : (s.enterState n).scanActive = s.scanActive := by unfold State.enterState; split <;> simp_all
@[simp] theorem State.enterState_intStatus (s : State) (n : SessState) : (s.enterState n).intStatus = if s.sess = n then s.intStatus else s.intStatus ||| IntBit.stateChg.mask := by unfold State.enterState; split <;> simp_all
@[simp] theorem State.enterState_intEnable (s : State) (n : SessState) : (s.enterState n).intEnable = s.intEnable := by unfold State.enterState; split <;> simp_all
@[simp] theorem State.enterState_qgamma (s : State) (n : SessState) : (s.enterState n).qgamma = s.qgamma := by unfold State.enterState; split <;> simp_all
@[simp] theorem State.enterState_prefMtu (s : State) (n : SessState) : (s.enterState n).prefMtu = s.prefMtu := by unfold State.enterState; split <;> simp_all
@[simp] theorem State.enterState_mtu (s : State) (n : SessState) : (s.enterState n).mtu = s.mtu := by unfold State.enterState; split <;> simp_all
@[simp] theorem State.enterState_sentTotal (s : State) (n : SessState) : (s.enterState n).sentTotal = s.sentTotal := by unfold State.enterState; split <;> simp_all
@[simp] theorem State.enterState_expectedTotal (s : State) (n : SessState) : (s.enterState n).expectedTotal = s.expectedTotal := by unfold State.enterState; split <;> simp_all
@[simp] theorem State.enterState_txOffset (s : State) (n : SessState) : (s.enterState n).txOffset = s.txOffset := by unfold State.enterState; split <;> simp_all
@[simp] theorem State.enterState_inflightLen (s : State) (n : SessState) : (s.enterState n).inflightLen = s.inflightLen := by unfold State.enterState; split <;> simp_all
@[simp] theorem State.enterState_fileLen (s : State) (n : SessState) : (s.enterState n).fileLen = s.fileLen := by unfold State.enterState; split <;> simp_all
@[simp] theorem State.enterState_scanHits (s : State) (n : SessState) : (s.enterState n).scanHits = s.scanHits := by unfold State.enterState; split <;> simp_all
@[simp] theorem State.enterState_mem (s : State) (n : SessState) : (s.enterState n).mem = s.mem := by unfold State.enterState; split <;> simp_all
@[simp] theorem State.enterState_frame (s : State) (n : SessState) : (s.enterState n).frame = s.frame := by unfold State.enterState; split <;> simp_all
@[simp] theorem State.enterState_requests (s : State) (n : SessState) : (s.enterState n).requests = s.requests := by unfold State.enterState; split <;> simp_all
@[simp] theorem State.enterState_responses (s : State) (n : SessState) : (s.enterState n).responses = s.responses := by unfold State.enterState; split <;> simp_all
@[simp] theorem State.enterState_inputs (s : State) (n : SessState) : (s.enterState n).inputs = s.inputs := by unfold State.enterState; split <;> simp_all
@[simp] theorem State.enterState_draws (s : State) (n : SessState) : (s.enterState n).draws = s.draws := by unfold State.enterState; split <;> simp_all
@[simp] theorem State.enterState_bayer4 (s : State) (n : SessState) : (s.enterState n).bayer4 = s.bayer4 := by unfold State.enterState; split <;> simp_all

/-! ## State.stopScan -/

@[simp] theorem State.stopScan_resultCode (s : State) : (s.stopScan).resultCode = s.resultCode := by unfold State.stopScan; split <;> simp_all
@[simp] theorem State.stopScan_resultOpcode (s : State) : (s.stopScan).resultOpcode = s.resultOpcode := by unfold State.stopScan; split <;> simp_all
@[simp] theorem State.stopScan_sess (s : State) : (s.stopScan).sess = s.sess := by unfold State.stopScan; split <;> simp_all
@[simp] theorem State.stopScan_failCause (s : State) : (s.stopScan).failCause = s.failCause := by unfold State.stopScan; split <;> simp_all
@[simp] theorem State.stopScan_charValid (s : State) : (s.stopScan).charValid = s.charValid := by unfold State.stopScan; split <;> simp_all
@[simp] theorem State.stopScan_inFlight (s : State) : (s.stopScan).inFlight = s.inFlight := by unfold State.stopScan; split <;> simp_all
@[simp] theorem State.stopScan_scanActive (s : State) : (s.stopScan).scanActive = false := by unfold State.stopScan; split <;> simp_all
@[simp] theorem State.stopScan_intStatus (s : State) : (s.stopScan).intStatus = s.intStatus := by unfold State.stopScan; split <;> simp_all
@[simp] theorem State.stopScan_intEnable (s : State) : (s.stopScan).intEnable = s.intEnable := by unfold State.stopScan; split <;> simp_all
@[simp] theorem State.stopScan_qgamma (s : State) : (s.stopScan).qgamma = s.qgamma := by unfold State.stopScan; split <;> simp_all
@[simp] theorem State.stopScan_prefMtu (s : State) : (s.stopScan).prefMtu = s.prefMtu := by unfold State.stopScan; split <;> simp_all
@[simp] theorem State.stopScan_mtu (s : State) : (s.stopScan).mtu = s.mtu := by unfold State.stopScan; split <;> simp_all
@[simp] theorem State.stopScan_sentTotal (s : State) : (s.stopScan).sentTotal = s.sentTotal := by unfold State.stopScan; split <;> simp_all
@[simp] theorem State.stopScan_expectedTotal (s : State) : (s.stopScan).expectedTotal = s.expectedTotal := by unfold State.stopScan; split <;> simp_all
@[simp] theorem State.stopScan_txOffset (s : State) : (s.stopScan).txOffset = s.txOffset := by unfold State.stopScan; split <;> simp_all
@[simp] theorem State.stopScan_inflightLen (s : State) : (s.stopScan).inflightLen = s.inflightLen := by unfold State.stopScan; split <;> simp_all
@[simp] theorem State.stopScan_fileLen (s : State) : (s.stopScan).fileLen = s.fileLen := by unfold State.stopScan; split <;> simp_all
@[simp] theorem State.stopScan_scanHits (s : State) : (s.stopScan).scanHits = s.scanHits := by unfold State.stopScan; split <;> simp_all
@[simp] theorem State.stopScan_mem (s : State) : (s.stopScan).mem = s.mem := by unfold State.stopScan; split <;> simp_all
@[simp] theorem State.stopScan_frame (s : State) : (s.stopScan).frame = s.frame := by unfold State.stopScan; split <;> simp_all
@[simp] theorem State.stopScan_requests (s : State) : (s.stopScan).requests = if s.scanActive then s.requests ++ [.scanStop] else s.requests := by unfold State.stopScan; split <;> simp_all
@[simp] theorem State.stopScan_responses (s : State) : (s.stopScan).responses = s.responses := by unfold State.stopScan; split <;> simp_all
@[simp] theorem State.stopScan_inputs (s : State) : (s.stopScan).inputs = s.inputs := by unfold State.stopScan; split <;> simp_all
@[simp] theorem State.stopScan_draws (s : State) : (s.stopScan).draws = s.draws := by unfold State.stopScan; split <;> simp_all
@[simp] theorem State.stopScan_bayer4 (s : State) : (s.stopScan).bayer4 = s.bayer4 := by unfold State.stopScan; split <;> simp_all

/-! ## State.issueChunk -/

@[simp] theorem State.issueChunk_resultCode (s : State) (off len : Nat) : (s.issueChunk off len).resultCode = s.resultCode := rfl
@[simp] theorem State.issueChunk_resultOpcode (s : State) (off len : Nat) : (s.issueChunk off len).resultOpcode = s.resultOpcode := rfl
@[simp] theorem State.issueChunk_sess (s : State) (off len : Nat) : (s.issueChunk off len).sess = s.sess := rfl
@[simp] theorem State.issueChunk_failCause (s : State) (off len : Nat) : (s.issueChunk off len).failCause = s.failCause := rfl
@[simp] theorem State.issueChunk_charValid (s : State) (off len : Nat) : (s.issueChunk off len).charValid = s.charValid := rfl
@[simp] theorem State.issueChunk_inFlight (s : State) (off len : Nat) : (s.issueChunk off len).inFlight = true := rfl
@[simp] theorem State.issueChunk_scanActive (s : State) (off len : Nat) : (s.issueChunk off len).scanActive = s.scanActive := rfl
@[simp] theorem State.issueChunk_intStatus (s : State) (off len : Nat) : (s.issueChunk off len).intStatus = s.intStatus := rfl
@[simp] theorem State.issueChunk_intEnable (s : State) (off len : Nat) : (s.issueChunk off len).intEnable = s.intEnable := rfl
@[simp] theorem State.issueChunk_qgamma (s : State) (off len : Nat) : (s.issueChunk off len).qgamma = s.qgamma := rfl
@[simp] theorem State.issueChunk_prefMtu (s : State) (off len : Nat) : (s.issueChunk off len).prefMtu = s.prefMtu := rfl
@[simp] theorem State.issueChunk_mtu (s : State) (off len : Nat) : (s.issueChunk off len).mtu = s.mtu := rfl
@[simp] theorem State.issueChunk_sentTotal (s : State) (off len : Nat) : (s.issueChunk off len).sentTotal = s.sentTotal := rfl
@[simp] theorem State.issueChunk_expectedTotal (s : State) (off len : Nat) : (s.issueChunk off len).expectedTotal = s.expectedTotal := rfl
@[simp] theorem State.issueChunk_txOffset (s : State) (off len : Nat) : (s.issueChunk off len).txOffset = BitVec.ofNat 32 (off + len) := rfl
@[simp] theorem State.issueChunk_inflightLen (s : State) (off len : Nat) : (s.issueChunk off len).inflightLen = BitVec.ofNat 16 len := rfl
@[simp] theorem State.issueChunk_fileLen (s : State) (off len : Nat) : (s.issueChunk off len).fileLen = s.fileLen := rfl
@[simp] theorem State.issueChunk_scanHits (s : State) (off len : Nat) : (s.issueChunk off len).scanHits = s.scanHits := rfl
@[simp] theorem State.issueChunk_mem (s : State) (off len : Nat) : (s.issueChunk off len).mem = s.mem := rfl
@[simp] theorem State.issueChunk_frame (s : State) (off len : Nat) : (s.issueChunk off len).frame = s.frame := rfl
@[simp] theorem State.issueChunk_requests (s : State) (off len : Nat) : (s.issueChunk off len).requests = s.requests ++ [.write (s.frame.bytesAt s.draws off len)] := rfl
@[simp] theorem State.issueChunk_responses (s : State) (off len : Nat) : (s.issueChunk off len).responses = s.responses := rfl
@[simp] theorem State.issueChunk_inputs (s : State) (off len : Nat) : (s.issueChunk off len).inputs = s.inputs := rfl
@[simp] theorem State.issueChunk_draws (s : State) (off len : Nat) : (s.issueChunk off len).draws = s.draws + 1 := rfl
@[simp] theorem State.issueChunk_bayer4 (s : State) (off len : Nat) : (s.issueChunk off len).bayer4 = s.bayer4 := rfl

/-! ## State.withScript -/

@[simp] theorem State.withScript_resultCode (s : State) (xs : List Input) : (s.withScript xs).resultCode = s.resultCode := rfl
@[simp] theorem State.withScript_resultOpcode (s : State) (xs : List Input) : (s.withScript xs).resultOpcode = s.resultOpcode := rfl
@[simp] theorem State.withScript_sess (s : State) (xs : List Input) : (s.withScript xs).sess = s.sess := rfl
@[simp] theorem State.withScript_failCause (s : State) (xs : List Input) : (s.withScript xs).failCause = s.failCause := rfl
@[simp] theorem State.withScript_charValid (s : State) (xs : List Input) : (s.withScript xs).charValid = s.charValid := rfl
@[simp] theorem State.withScript_inFlight (s : State) (xs : List Input) : (s.withScript xs).inFlight = s.inFlight := rfl
@[simp] theorem State.withScript_scanActive (s : State) (xs : List Input) : (s.withScript xs).scanActive = s.scanActive := rfl
@[simp] theorem State.withScript_intStatus (s : State) (xs : List Input) : (s.withScript xs).intStatus = s.intStatus := rfl
@[simp] theorem State.withScript_intEnable (s : State) (xs : List Input) : (s.withScript xs).intEnable = s.intEnable := rfl
@[simp] theorem State.withScript_qgamma (s : State) (xs : List Input) : (s.withScript xs).qgamma = s.qgamma := rfl
@[simp] theorem State.withScript_prefMtu (s : State) (xs : List Input) : (s.withScript xs).prefMtu = s.prefMtu := rfl
@[simp] theorem State.withScript_mtu (s : State) (xs : List Input) : (s.withScript xs).mtu = s.mtu := rfl
@[simp] theorem State.withScript_sentTotal (s : State) (xs : List Input) : (s.withScript xs).sentTotal = s.sentTotal := rfl
@[simp] theorem State.withScript_expectedTotal (s : State) (xs : List Input) : (s.withScript xs).expectedTotal = s.expectedTotal := rfl
@[simp] theorem State.withScript_txOffset (s : State) (xs : List Input) : (s.withScript xs).txOffset = s.txOffset := rfl
@[simp] theorem State.withScript_inflightLen (s : State) (xs : List Input) : (s.withScript xs).inflightLen = s.inflightLen := rfl
@[simp] theorem State.withScript_fileLen (s : State) (xs : List Input) : (s.withScript xs).fileLen = s.fileLen := rfl
@[simp] theorem State.withScript_scanHits (s : State) (xs : List Input) : (s.withScript xs).scanHits = s.scanHits := rfl
@[simp] theorem State.withScript_mem (s : State) (xs : List Input) : (s.withScript xs).mem = s.mem := rfl
@[simp] theorem State.withScript_frame (s : State) (xs : List Input) : (s.withScript xs).frame = s.frame := rfl
@[simp] theorem State.withScript_requests (s : State) (xs : List Input) : (s.withScript xs).requests = s.requests := rfl
@[simp] theorem State.withScript_responses (s : State) (xs : List Input) : (s.withScript xs).responses = s.responses := rfl
@[simp] theorem State.withScript_inputs (s : State) (xs : List Input) : (s.withScript xs).inputs = xs := rfl
@[simp] theorem State.withScript_draws (s : State) (xs : List Input) : (s.withScript xs).draws = s.draws := rfl
@[simp] theorem State.withScript_bayer4 (s : State) (xs : List Input) : (s.withScript xs).bayer4 = s.bayer4 := rfl

/-! ## State.withMatrix -/

@[simp] theorem State.withMatrix_resultCode (s : State) (b : BayerMatrix) : (s.withMatrix b).resultCode = s.resultCode := rfl
@[simp] theorem State.withMatrix_resultOpcode (s : State) (b : BayerMatrix) : (s.withMatrix b).resultOpcode = s.resultOpcode := rfl
@[simp] theorem State.withMatrix_sess (s : State) (b : BayerMatrix) : (s.withMatrix b).sess = s.sess := rfl
@[simp] theorem State.withMatrix_failCause (s : State) (b : BayerMatrix) : (s.withMatrix b).failCause = s.failCause := rfl
@[simp] theorem State.withMatrix_charValid (s : State) (b : BayerMatrix) : (s.withMatrix b).charValid = s.charValid := rfl
@[simp] theorem State.withMatrix_inFlight (s : State) (b : BayerMatrix) : (s.withMatrix b).inFlight = s.inFlight := rfl
@[simp] theorem State.withMatrix_scanActive (s : State) (b : BayerMatrix) : (s.withMatrix b).scanActive = s.scanActive := rfl
@[simp] theorem State.withMatrix_intStatus (s : State) (b : BayerMatrix) : (s.withMatrix b).intStatus = s.intStatus := rfl
@[simp] theorem State.withMatrix_intEnable (s : State) (b : BayerMatrix) : (s.withMatrix b).intEnable = s.intEnable := rfl
@[simp] theorem State.withMatrix_qgamma (s : State) (b : BayerMatrix) : (s.withMatrix b).qgamma = s.qgamma := rfl
@[simp] theorem State.withMatrix_prefMtu (s : State) (b : BayerMatrix) : (s.withMatrix b).prefMtu = s.prefMtu := rfl
@[simp] theorem State.withMatrix_mtu (s : State) (b : BayerMatrix) : (s.withMatrix b).mtu = s.mtu := rfl
@[simp] theorem State.withMatrix_sentTotal (s : State) (b : BayerMatrix) : (s.withMatrix b).sentTotal = s.sentTotal := rfl
@[simp] theorem State.withMatrix_expectedTotal (s : State) (b : BayerMatrix) : (s.withMatrix b).expectedTotal = s.expectedTotal := rfl
@[simp] theorem State.withMatrix_txOffset (s : State) (b : BayerMatrix) : (s.withMatrix b).txOffset = s.txOffset := rfl
@[simp] theorem State.withMatrix_inflightLen (s : State) (b : BayerMatrix) : (s.withMatrix b).inflightLen = s.inflightLen := rfl
@[simp] theorem State.withMatrix_fileLen (s : State) (b : BayerMatrix) : (s.withMatrix b).fileLen = s.fileLen := rfl
@[simp] theorem State.withMatrix_scanHits (s : State) (b : BayerMatrix) : (s.withMatrix b).scanHits = s.scanHits := rfl
@[simp] theorem State.withMatrix_mem (s : State) (b : BayerMatrix) : (s.withMatrix b).mem = s.mem := rfl
@[simp] theorem State.withMatrix_frame (s : State) (b : BayerMatrix) : (s.withMatrix b).frame = s.frame := rfl
@[simp] theorem State.withMatrix_requests (s : State) (b : BayerMatrix) : (s.withMatrix b).requests = s.requests := rfl
@[simp] theorem State.withMatrix_responses (s : State) (b : BayerMatrix) : (s.withMatrix b).responses = s.responses := rfl
@[simp] theorem State.withMatrix_inputs (s : State) (b : BayerMatrix) : (s.withMatrix b).inputs = s.inputs := rfl
@[simp] theorem State.withMatrix_draws (s : State) (b : BayerMatrix) : (s.withMatrix b).draws = s.draws := rfl
@[simp] theorem State.withMatrix_bayer4 (s : State) (b : BayerMatrix) : (s.withMatrix b).bayer4 = b := rfl

/-! ## State.withFetchWord -/

@[simp] theorem State.withFetchWord_resultCode (s : State) (n w : Nat) : (s.withFetchWord n w).resultCode = s.resultCode := rfl
@[simp] theorem State.withFetchWord_resultOpcode (s : State) (n w : Nat) : (s.withFetchWord n w).resultOpcode = s.resultOpcode := rfl
@[simp] theorem State.withFetchWord_sess (s : State) (n w : Nat) : (s.withFetchWord n w).sess = s.sess := rfl
@[simp] theorem State.withFetchWord_failCause (s : State) (n w : Nat) : (s.withFetchWord n w).failCause = s.failCause := rfl
@[simp] theorem State.withFetchWord_charValid (s : State) (n w : Nat) : (s.withFetchWord n w).charValid = s.charValid := rfl
@[simp] theorem State.withFetchWord_inFlight (s : State) (n w : Nat) : (s.withFetchWord n w).inFlight = s.inFlight := rfl
@[simp] theorem State.withFetchWord_scanActive (s : State) (n w : Nat) : (s.withFetchWord n w).scanActive = s.scanActive := rfl
@[simp] theorem State.withFetchWord_intStatus (s : State) (n w : Nat) : (s.withFetchWord n w).intStatus = s.intStatus := rfl
@[simp] theorem State.withFetchWord_intEnable (s : State) (n w : Nat) : (s.withFetchWord n w).intEnable = s.intEnable := rfl
@[simp] theorem State.withFetchWord_qgamma (s : State) (n w : Nat) : (s.withFetchWord n w).qgamma = s.qgamma := rfl
@[simp] theorem State.withFetchWord_prefMtu (s : State) (n w : Nat) : (s.withFetchWord n w).prefMtu = s.prefMtu := rfl
@[simp] theorem State.withFetchWord_mtu (s : State) (n w : Nat) : (s.withFetchWord n w).mtu = s.mtu := rfl
@[simp] theorem State.withFetchWord_sentTotal (s : State) (n w : Nat) : (s.withFetchWord n w).sentTotal = s.sentTotal := rfl
@[simp] theorem State.withFetchWord_expectedTotal (s : State) (n w : Nat) : (s.withFetchWord n w).expectedTotal = s.expectedTotal := rfl
@[simp] theorem State.withFetchWord_txOffset (s : State) (n w : Nat) : (s.withFetchWord n w).txOffset = s.txOffset := rfl
@[simp] theorem State.withFetchWord_inflightLen (s : State) (n w : Nat) : (s.withFetchWord n w).inflightLen = s.inflightLen := rfl
@[simp] theorem State.withFetchWord_fileLen (s : State) (n w : Nat) : (s.withFetchWord n w).fileLen = s.fileLen := rfl
@[simp] theorem State.withFetchWord_scanHits (s : State) (n w : Nat) : (s.withFetchWord n w).scanHits = s.scanHits := rfl
@[simp] theorem State.withFetchWord_mem (s : State) (n w : Nat) : (s.withFetchWord n w).mem = s.mem := rfl
@[simp] theorem State.withFetchWord_frame (s : State) (n w : Nat) : (s.withFetchWord n w).frame = s.frame := rfl
@[simp] theorem State.withFetchWord_requests (s : State) (n w : Nat) : (s.withFetchWord n w).requests = s.requests := rfl
@[simp] theorem State.withFetchWord_responses (s : State) (n w : Nat) : (s.withFetchWord n w).responses = s.responses := rfl
@[simp] theorem State.withFetchWord_inputs (s : State) (n w : Nat) : (s.withFetchWord n w).inputs = inputOfWord (tableWord n w) :: s.inputs := rfl
@[simp] theorem State.withFetchWord_draws (s : State) (n w : Nat) : (s.withFetchWord n w).draws = s.draws := rfl
@[simp] theorem State.withFetchWord_bayer4 (s : State) (n w : Nat) : (s.withFetchWord n w).bayer4 = s.bayer4 := rfl

end Sys2Proof.Machine
end

