-- ==== Sys2Proof/Laws/Flags.lean ====
section
/-! SUPPORT. INT_STATUS bit by bit: which bits an update of the byte sets, and STATE_CHG. -/

namespace Sys2Proof.Machine

/-- Setting one bit of INT_STATUS sets that bit and no other. -/
theorem IntBit.getLsbD_or_mask (x : Byte) (b b' : IntBit) :
    (x ||| b.mask).getLsbD b'.pos = (x.getLsbD b'.pos || decide (b' = b)) := by
  cases b <;> cases b' <;> simp [IntBit.mask, IntBit.pos]

theorem IntBit.pos_lt (b : IntBit) : b.pos < 8 := by cases b <;> decide

/-- Two bits at one place are one bit. -/
theorem IntBit.pos_inj {b b' : IntBit} (h : b.pos = b'.pos) : b = b' := by
  cases b <;> cases b' <;> simp_all [IntBit.pos]

@[simp] theorem State.flag_raise (s : State) (b b' : IntBit) :
    (s.raise b).flag b' = (s.flag b' || decide (b' = b)) := IntBit.getLsbD_or_mask _ b b'

@[simp] theorem State.flag_result (s : State) (op : Byte) (c : ResultCode) (b : IntBit) :
    (s.result op c).flag b = s.flag b := rfl

@[simp] theorem State.flag_reject (s : State) (op : Byte) (c : ResultCode) (b : IntBit) :
    (s.reject op c).flag b = (s.flag b || decide (b = .cmdErr)) := IntBit.getLsbD_or_mask _ .cmdErr b

@[simp] theorem State.flag_ignore (s : State) (b : IntBit) :
    s.ignore.flag b = (s.flag b || decide (b = .evtIgnored)) := IntBit.getLsbD_or_mask _ .evtIgnored b

@[simp] theorem State.flag_emit (s : State) (r : Request) (b : IntBit) : (s.emit r).flag b = s.flag b := rfl

@[simp] theorem State.flag_draw (s : State) (b : IntBit) : s.draw.flag b = s.flag b := rfl

@[simp] theorem State.flag_respond (s : State) (r : BusResponse) (b : IntBit) :
    (s.respond r).flag b = s.flag b := rfl

@[simp] theorem State.flag_retire (s : State) (b : IntBit) : s.retire.flag b = s.flag b := rfl

@[simp] theorem State.flag_dropLink (s : State) (c : FailCause) (b : IntBit) : (s.dropLink c).flag b = s.flag b := rfl

@[simp] theorem State.flag_issueChunk (s : State) (off len : Nat) (b : IntBit) :
    (s.issueChunk off len).flag b = s.flag b := rfl

@[simp] theorem State.flag_stopScan (s : State) (b : IntBit) : s.stopScan.flag b = s.flag b := by
  simp [State.flag]

/-- STATE_CHG is set exactly when the state written is another one (42_session.md R284). -/
@[simp] theorem State.flag_enterState (s : State) (n : SessState) (b : IntBit) :
    (s.enterState n).flag b = (s.flag b || (decide (b = .stateChg) && decide (n ≠ s.sess))) := by
  unfold State.enterState
  by_cases h : s.sess = n
  · simp [h]
  · have h' : n ≠ s.sess := fun e => h e.symm
    rw [if_neg h]
    have : ({ s.raise .stateChg with sess := n } : State).flag b = (s.raise .stateChg).flag b := rfl
    rw [this, State.flag_raise]
    simp [h']

end Sys2Proof.Machine
end

