-- ==== Sys2Proof/Laws/Memory.lean ====
section
/-! SUPPORT. Buffers: reading after writing, the canonical form, and little-endian numbers. `peek_blit` says all that a
write does; `wf_blit` that it keeps the canonical form; `eq_of_peek` that equal contents are equal data. -/

namespace Sys2Proof.Machine

namespace Memory

@[simp] theorem peek_nil (a : Nat) : peek [] a = none := rfl

theorem peek_cons (k : Nat) (b : Byte) (m : Memory) (a : Nat) :
    peek ((k, b) :: m) a = if k = a then some b else peek m a := rfl

theorem peek_append (m m' : Memory) (a : Nat) : peek (m ++ m') a = (peek m a).or (peek m' a) := by
  induction m with
  | nil => simp
  | cons c m ih =>
    obtain ⟨k, b⟩ := c
    simp only [List.cons_append, peek_cons]
    split <;> simp_all

/-- Dropping cells whose keys fail `p` hides those keys and no other. -/
theorem peek_filter (m : Memory) (p : Nat → Bool) (a : Nat) :
    peek (m.filter fun c => p c.1) a = if p a then peek m a else none := by
  induction m with
  | nil => simp
  | cons c m ih =>
    obtain ⟨k, b⟩ := c
    simp only [List.filter_cons, peek_cons]
    by_cases hk : k = a
    · subst hk
      cases hp : p k <;> simp_all [peek_cons]
    · cases hp : p k <;> simp_all [peek_cons]

/-- The cells of a run of keys. -/
theorem peek_run (g : Nat → Byte) (n a k : Nat) :
    peek ((List.range' a n).map fun j => (j, g j)) k = if a ≤ k ∧ k < a + n then some (g k) else none := by
  induction n generalizing a with
  | zero => simp
  | succ n ih =>
    simp only [List.range'_succ, List.map_cons, peek_cons, ih]
    by_cases hk : a = k
    · subst hk; simp
    · simp only [hk, if_false]
      congr 1
      simp only [eq_iff_iff]
      omega

/-- Reading after a write: the written bytes where the write reached, what was there elsewhere. -/
theorem peek_blit (m : Memory) (a n : Nat) (f : Nat → Byte) (k : Nat) :
    (m.blit a n f).peek k = if a ≤ k ∧ k < a + n then some (f (k - a)) else m.peek k := by
  unfold blit
  rw [peek_append, peek_append, peek_filter m (fun k => decide (k < a)),
    peek_run (fun j => f (j - a)), peek_filter m (fun k => decide (a + n ≤ k))]
  by_cases h1 : k < a
  · have h2 : ¬ (a ≤ k ∧ k < a + n) := by omega
    have h3 : ¬ a + n ≤ k := by omega
    simp [h1, h2, h3]
  · by_cases h2 : k < a + n
    · have h3 : a ≤ k ∧ k < a + n := by omega
      simp [h1, h3]
    · have h3 : ¬ (a ≤ k ∧ k < a + n) := by omega
      have h4 : a + n ≤ k := by omega
      simp [h1, h3, h4]

theorem peek_blit_in {m : Memory} {a n : Nat} {f : Nat → Byte} {k : Nat} (h : a ≤ k) (h' : k < a + n) :
    (m.blit a n f).peek k = some (f (k - a)) := by simp [peek_blit, h, h']

theorem peek_blit_out {m : Memory} {a n : Nat} {f : Nat → Byte} {k : Nat} (h : k < a ∨ a + n ≤ k) :
    (m.blit a n f).peek k = m.peek k := by
  rw [peek_blit, if_neg (by omega)]

/-- Byte `i` of what a write of `n` bytes at `a` leaves. -/
theorem peek_blit_add {m : Memory} {a n : Nat} {f : Nat → Byte} {i : Nat} (h : i < n) :
    (m.blit a n f).peek (a + i) = some (f i) := by
  rw [peek_blit_in (by omega) (by omega)]
  congr 2
  omega

theorem byteAt_eq_of_peek {m m' : Memory} {a : Nat} (h : m.peek a = m'.peek a) (d : Nat) :
    m.byteAt d a = m'.byteAt d a := by simp [byteAt, h]

theorem byteAt_of_peek {m : Memory} {a : Nat} {b : Byte} (h : m.peek a = some b) (d : Nat) : m.byteAt d a = b := by
  simp [byteAt, h]

theorem byteAt_blit (m : Memory) (a n : Nat) (f : Nat → Byte) (d k : Nat) :
    (m.blit a n f).byteAt d k = if a ≤ k ∧ k < a + n then f (k - a) else m.byteAt d k := by
  unfold byteAt
  rw [peek_blit]
  split <;> rfl

/-! ## The canonical form -/

theorem wf_nil : wf [] := List.Pairwise.nil

/-- The keys a write leaves: those it wrote and those that were there. -/
theorem mem_blit {m : Memory} {a n : Nat} {f : Nat → Byte} {c : Host.Cell} (h : c ∈ m.blit a n f) :
    c ∈ m ∨ (a ≤ c.1 ∧ c.1 < a + n) := by
  simp only [blit, List.mem_append, List.mem_filter, List.mem_map, List.mem_range'_1] at h
  rcases h with (h | ⟨k, hk, rfl⟩) | h
  · exact .inl h.1
  · exact .inr hk
  · exact .inl h.1

theorem wf_blit {m : Memory} (h : m.wf) (a n : Nat) (f : Nat → Byte) : (m.blit a n f).wf := by
  unfold wf blit
  refine List.pairwise_append.2 ⟨List.pairwise_append.2 ⟨h.filter _, ?_, ?_⟩, h.filter _, ?_⟩
  · rw [List.pairwise_map]
    exact List.pairwise_lt_range' (s := a) (n := n)
  · intro c hc c' hc'
    simp only [List.mem_filter, decide_eq_true_eq, List.mem_map, List.mem_range'_1] at hc hc'
    obtain ⟨k, hk, rfl⟩ := hc'
    simp only
    omega
  · intro c hc c' hc'
    simp only [List.mem_append, List.mem_filter, decide_eq_true_eq, List.mem_map, List.mem_range'_1] at hc hc'
    rcases hc with hc | ⟨k, hk, rfl⟩
    · omega
    · simp only
      omega

theorem peek_ne_none {m : Memory} {a : Nat} (h : m.peek a ≠ none) : ∃ b, (a, b) ∈ m := by
  induction m with
  | nil => simp at h
  | cons c m ih =>
    obtain ⟨k, b⟩ := c
    rw [peek_cons] at h
    by_cases hk : k = a
    · exact ⟨b, by simp [hk]⟩
    · obtain ⟨b', hb'⟩ := ih (by simpa [hk] using h)
      exact ⟨b', List.mem_cons_of_mem _ hb'⟩

theorem peek_of_mem {m : Memory} (h : m.wf) {a : Nat} {b : Byte} (hm : (a, b) ∈ m) : m.peek a = some b := by
  induction m with
  | nil => cases hm
  | cons c m ih =>
    obtain ⟨k, b'⟩ := c
    rw [wf, List.pairwise_cons] at h
    rcases List.mem_cons.1 hm with heq | hm'
    · cases heq; simp [peek_cons]
    · have hlt := h.1 _ hm'
      simp only at hlt
      rw [peek_cons, if_neg (by omega)]
      exact ih h.2 hm'

/-- A key below every listed key holds nothing. -/
theorem peek_below {m : Memory} {a : Nat} (h : ∀ c ∈ m, a < c.1) : m.peek a = none := by
  by_contra hne
  obtain ⟨b, hb⟩ := peek_ne_none hne
  have := h _ hb
  simp at this

/-- Two buffers in canonical form that hold the same bytes are the same list. -/
theorem eq_of_peek {m m' : Memory} (h : m.wf) (h' : m'.wf) (hp : ∀ a, m.peek a = m'.peek a) : m = m' := by
  induction m generalizing m' with
  | nil =>
    cases m' with
    | nil => rfl
    | cons c m' =>
      have := hp c.1
      simp [peek] at this
  | cons c m ih =>
    obtain ⟨k, b⟩ := c
    cases m' with
    | nil =>
      have := hp k
      simp [peek_cons] at this
    | cons c' m' =>
      obtain ⟨k', b'⟩ := c'
      rw [wf, List.pairwise_cons] at h h'
      have hkk : k = k' := by
        by_contra hne
        rcases Nat.lt_or_gt_of_ne hne with hlt | hlt
        · have h1 := hp k
          have h2 : peek ((k', b') :: m') k = none :=
            peek_below fun c hc => by
              rcases List.mem_cons.1 hc with rfl | hc
              · exact hlt
              · exact Nat.lt_trans hlt (h'.1 _ hc)
          rw [h2] at h1
          simp [peek_cons] at h1
        · have h1 := hp k'
          have h2 : peek ((k, b) :: m) k' = none :=
            peek_below fun c hc => by
              rcases List.mem_cons.1 hc with rfl | hc
              · exact hlt
              · exact Nat.lt_trans hlt (h.1 _ hc)
          rw [h2] at h1
          simp [peek_cons] at h1
      subst hkk
      have hb : b = b' := by simpa [peek_cons] using hp k
      subst hb
      congr 1
      refine ih h.2 h'.2 fun a => ?_
      have hpa := hp a
      by_cases hka : k = a
      · subst hka
        rw [peek_below fun c hc => h.1 c hc, peek_below fun c hc => h'.1 c hc]
      · simpa [peek_cons, hka] using hpa

/-! ## Byte sequences -/

@[simp] theorem length_bytesAt (m : Memory) (d a n : Nat) : (m.bytesAt d a n).length = n := by simp [bytesAt]

theorem getElem_bytesAt (m : Memory) (d a n i : Nat) (h : i < (m.bytesAt d a n).length) :
    (m.bytesAt d a n)[i] = m.byteAt d (a + i) := by simp [bytesAt]

theorem bytesAt_congr {m m' : Memory} {d d' a n : Nat}
    (h : ∀ i < n, m.byteAt d (a + i) = m'.byteAt d' (a + i)) : m.bytesAt d a n = m'.bytesAt d' a n := by
  simp only [bytesAt, List.map_inj_left, List.mem_range]
  exact h

/-- A sequence is its first part and the rest. -/
theorem bytesAt_add (m : Memory) (d a n k : Nat) :
    m.bytesAt d a (n + k) = m.bytesAt d a n ++ m.bytesAt d (a + n) k := by
  simp [bytesAt, List.range_add, Nat.add_assoc]

/-- A run of a byte sequence is the sequence of the run. -/
theorem bytesAt_drop_take (m : Memory) (d a n i k : Nat) (h : i + k ≤ n) :
    ((m.bytesAt d a n).drop i).take k = m.bytesAt d (a + i) k := by
  apply List.ext_getElem
  · simp; omega
  · intro j hj hj'
    simp [getElem_bytesAt, Nat.add_assoc]

end Memory

/-! ## Little-endian numbers -/

theorem leNat_lt (bs : List Byte) : leNat bs < 256 ^ bs.length := by
  induction bs with
  | nil => simp [leNat]
  | cons b bs ih =>
    have hb : b.toNat < 256 := b.isLt
    simp only [leNat, List.length_cons, Nat.pow_succ]
    omega

/-- The bytes of a number, read back, give the number modulo their width. -/
theorem leNat_leByte (v n : Nat) : leNat ((List.range n).map (leByte v)) = v % 256 ^ n := by
  induction n generalizing v with
  | zero => simp [leNat, Nat.mod_one]
  | succ n ih =>
    have hshift : (List.range n).map (fun i => leByte v (i + 1)) = (List.range n).map (leByte (v / 256)) := by
      apply List.map_congr_left
      intro i _
      simp only [leByte, Nat.pow_succ]
      rw [Nat.mul_comm, Nat.div_div_eq_div_mul]
    rw [List.range_succ_eq_map, List.map_cons, List.map_map]
    have hcomp : (leByte v ∘ Nat.succ) = fun i => leByte v (i + 1) := rfl
    rw [hcomp, hshift, leNat, ih]
    have h0 : (leByte v 0).toNat = v % 256 := by simp [leByte]
    rw [h0, Nat.pow_succ, Nat.mul_comm (256 ^ n) 256, Nat.mod_mul]

/-- Reading back a little-endian write of the same place and size gives the value modulo its width. -/
theorem Memory.readLe_writeLe (m : Memory) (d a n v : Nat) : (m.writeLe a n v).readLe d a n = v % 256 ^ n := by
  have hb : (m.writeLe a n v).bytesAt d a n = (List.range n).map (leByte v) := by
    simp only [Memory.bytesAt, List.map_inj_left, List.mem_range]
    intro i hi
    exact Memory.byteAt_of_peek (Memory.peek_blit_add hi) d
  rw [Memory.readLe, hb, leNat_leByte]

end Sys2Proof.Machine
end

