-- ==== Sys2Proof/Laws/Invariant.lean ====
section
/-! SUPPORT. Two ways a state takes the invariants over from another: the session untouched, or no send in progress. -/

namespace Sys2Proof.Machine

/-- A write inside a mapped buffer leaves every cell in a mapped buffer. -/
theorem Memory.mapped_blit {m : Memory} {a n : Nat} {f : Nat → Byte} {r : Region} (hr : r ≠ .page)
    (h : r.base ≤ a ∧ a + n ≤ r.base + r.size)
    (hm : ∀ c ∈ m, ∃ r, r ≠ Region.page ∧ r.base ≤ c.1 ∧ c.1 < r.base + r.size) :
    ∀ c ∈ m.blit a n f, ∃ r, r ≠ Region.page ∧ r.base ≤ c.1 ∧ c.1 < r.base + r.size := by
  intro c hc
  rcases Memory.mem_blit hc with h1 | h1
  · exact hm c h1
  · exact ⟨r, hr, by omega, by omega⟩

/-- A step that leaves the session and FRAME as they are keeps the invariants if it keeps the buffers' form. -/
theorem State.Inv.of_same {s t : State} (hi : s.Inv) (hsess : t.sess = s.sess) (hfl : t.inFlight = s.inFlight)
    (hcv : t.charValid = s.charValid) (hfc : t.failCause = s.failCause) (hst : t.sentTotal = s.sentTotal)
    (hil : t.inflightLen = s.inflightLen) (hto : t.txOffset = s.txOffset) (het : t.expectedTotal = s.expectedTotal)
    (hsc : t.scanActive = true → s.scanActive = true) (hfile : t.fileLen.toNat ≤ 8192) (hwf : t.mem.wf)
    (hmap : ∀ c ∈ t.mem, ∃ r, r ≠ Region.page ∧ r.base ≤ c.1 ∧ c.1 < r.base + r.size) (hfr : t.frame = s.frame)
    (hrq : ∀ bs, Request.write bs ∈ t.requests → Request.write bs ∈ s.requests) : t.Inv := by
  obtain ⟨a, b, c, d, e, f, g, h, i, j, k, l, m, n, o, p, q⟩ := hi
  constructor <;> first | assumption | (simp_all; done) | (rw [hfr]; assumption)

/-- A step that ends with no send in progress keeps the invariants if it leaves the buffers, the cursor and
EXPECTED_TOTAL as they are. -/
theorem State.Inv.of_quiet {s t : State} (hi : s.Inv) (hsess : t.sess ≠ .sending) (hfl : t.inFlight = false)
    (hil : t.inflightLen = 0#16)
    (hcv : t.charValid = true ↔ t.sess = .ready ∨ (t.sess = .failed ∧ t.failCause = .sendNack))
    (hst : t.sentTotal.toNat ≤ t.expectedTotal.toNat) (hto : t.txOffset = s.txOffset)
    (het : t.expectedTotal = s.expectedTotal)
    (hsc : t.scanActive = true → t.sess = .idle ∨ t.sess = .disconnected) (hfile : t.fileLen = s.fileLen)
    (hm : t.mem = s.mem) (hfr : t.frame = s.frame)
    (hrq : ∀ bs, Request.write bs ∈ t.requests → Request.write bs ∈ s.requests) : t.Inv := by
  obtain ⟨a, b, c, d, e, f, g, h, i, j, k, l, m, n, o, p, q⟩ := hi
  constructor <;> first | assumption | (simp_all; done) | (rw [hfr]; assumption) | (rw [hm]; assumption)

end Sys2Proof.Machine
end

