-- ==== Sys2Proof/Laws/Operands.lean ====
section
/-! SUPPORT. What the operand computations can answer: the chunk size, the regions of the address map, the pixels'
places. -/

namespace Sys2Proof

@[simp] theorem Width.bytes_b8 : Width.bytes .b8 = 1 := rfl
@[simp] theorem Width.bytes_b16 : Width.bytes .b16 = 2 := rfl
@[simp] theorem Width.bytes_b32 : Width.bytes .b32 = 4 := rfl

theorem Width.bytes_pos (w : Width) : 0 < w.bytes := by cases w <;> decide

end Sys2Proof

namespace Sys2Proof.Machine

/-! ## Chunks -/

theorem chunkSize_eq (mtu : Half) : chunkSize mtu = min (max (mtu.toNat - 3) 20) 244 := by
  simp only [chunkSize, clamp, Config.attOverhead, Config.chunkMin, Config.chunkMax]
  omega

theorem chunkSize_ge (mtu : Half) : 20 ≤ chunkSize mtu := by rw [chunkSize_eq]; omega

theorem chunkSize_le (mtu : Half) : chunkSize mtu ≤ 244 := by rw [chunkSize_eq]; omega

theorem ceilDiv_mul_ge {a b : Nat} (hb : 0 < b) : a ≤ ceilDiv a b * b := by
  unfold ceilDiv
  have h := Nat.div_add_mod (a + b - 1) b
  have h' := Nat.mod_lt (a + b - 1) hb
  rw [Nat.mul_comm] at h
  omega

theorem ceilDiv_mul_lt {a b : Nat} (hb : 0 < b) : ceilDiv a b * b < a + b := by
  unfold ceilDiv
  have h := Nat.div_mul_le_self (a + b - 1) b
  omega

/-- A chunk issued while bytes remain has 1 to 244 of them and stays within the frame. -/
theorem State.nextChunkLen_bounds {s : State} (h : s.txOffset.toNat < 4740) :
    1 ≤ s.nextChunkLen ∧ s.nextChunkLen ≤ 244 ∧ s.txOffset.toNat + s.nextChunkLen ≤ 4740 := by
  have h1 := chunkSize_ge s.mtu
  have h2 := chunkSize_le s.mtu
  simp only [State.nextChunkLen, Config.frameLen]
  omega

/-! ## The address map -/

/-- A region other than the register page, by the addresses of 20_memory.md R81. -/
theorem regionOf_some {a n : Nat} {r : Region} (h : regionOf a n = some r) : r.base ≤ a ∧ a + n ≤ r.base + r.size := by
  have := List.find?_some h
  simpa [Region.holds] using this

/-- No region holds the access exactly when each of the four fails to. -/
theorem regionOf_none {a n : Nat} :
    regionOf a n = none ↔ ∀ r : Region, ¬ (r.base ≤ a ∧ a + n ≤ r.base + r.size) := by
  rw [regionOf, List.find?_eq_none]
  constructor
  · intro h r
    have := h r (by cases r <;> simp)
    simpa [Region.holds] using this
  · intro h r _
    have := h r
    simpa [Region.holds] using this

/-- The regions do not overlap: an access lies in at most one. -/
theorem Region.eq_of_holds {a n : Nat} {r r' : Region} (hn : 0 < n)
    (h : r.base ≤ a ∧ a + n ≤ r.base + r.size) (h' : r'.base ≤ a ∧ a + n ≤ r'.base + r'.size) : r = r' := by
  cases r <;> cases r' <;> first | rfl | (simp [Region.base, Region.size] at h h'; omega)

/-- The region of an access is the one that holds it. -/
theorem regionOf_eq {a n : Nat} {r : Region} (hn : 0 < n) (h : r.base ≤ a ∧ a + n ≤ r.base + r.size) :
    regionOf a n = some r := by
  cases hr : regionOf a n with
  | none => exact absurd h (regionOf_none.1 hr r)
  | some r' => rw [Region.eq_of_holds hn (regionOf_some hr) h]

/-! ## The register page -/

/-- A register write can change five fields and nothing else (20_memory.md R92, 10_state.md R32). -/
theorem State.writeReg_frame (s : State) (off : Nat) (v : Word) :
    s.writeReg off v = { s with
      intStatus := (s.writeReg off v).intStatus, intEnable := (s.writeReg off v).intEnable
      qgamma := (s.writeReg off v).qgamma, prefMtu := (s.writeReg off v).prefMtu
      fileLen := (s.writeReg off v).fileLen } := by
  unfold State.writeReg
  split <;> rfl

/-! ## FILE's fields -/

theorem rd32_lt (rd : Nat → Byte) (o : Nat) : rd32 rd o < 2 ^ 32 := by
  have := leNat_lt [rd o, rd (o + 1), rd (o + 2), rd (o + 3)]
  simpa [rd32] using this

/-- The signed reading of a 32-bit field (00_scope.md R19). -/
theorem s32_eq {v : Nat} (h : v < 2 ^ 32) : s32 v = if v < 2 ^ 31 then (v : Int) else (v : Int) - 2 ^ 32 := by
  unfold s32
  rw [BitVec.toInt_eq_toNat_cond]
  simp only [BitVec.toNat_ofNat, Nat.mod_eq_of_lt h]
  split <;> split <;> omega

/-! ## Pixels -/

/-- A pixel's FB byte is one of the 4736, and its place in that byte is the pixel's place in its row. -/
theorem fbAddr_lt {x y : Nat} (hx : x < 128) (hy : y < 296) : fbAddr x y < 0x10000 + 4736 := by
  simp only [fbAddr, Config.fbBase, Config.rowBytes]
  omega

/-- A channel's address lies in CANVAS. -/
theorem canvasAddr_lt {x y c : Nat} (hx : x < 128) (hy : y < 296) (hc : c < 4) :
    0x40000 ≤ canvasAddr x y c ∧ canvasAddr x y c < 0x40000 + 151552 := by
  simp only [canvasAddr, Config.canvasBase, Config.width]
  omega

@[simp] theorem bmpStride_eq : bmpStride = 16 := rfl

end Sys2Proof.Machine
end

