-- ==== Sys2Proof/Laws/PerInstr.lean ====
section
/-! SUPPORT. Per instruction: its encoded word lies in its row of spec/opcode_table.json, whatever its operands. -/

namespace Sys2Proof.Laws.TableRow

/-- The word of `i` under its row's mask is its row's match. -/
def Statement (i : Instr) : Prop := encode i &&& (tableRow i).2 = (tableRow i).1

theorem nop : Statement .nop := by unfold Statement; decide
theorem quantize : Statement .quantize := by unfold Statement; decide
theorem unpack : Statement .unpack := by unfold Statement; decide
theorem bmpEncode : Statement .bmpEncode := by unfold Statement; decide
theorem bmpDecode : Statement .bmpDecode := by unfold Statement; decide
theorem connect : Statement .connect := by unfold Statement; decide
theorem disconnect : Statement .disconnect := by unfold Statement; decide
theorem send : Statement .send := by unfold Statement; decide
theorem scanStart : Statement .scanStart := by unfold Statement; decide
theorem scanStop : Statement .scanStop := by unfold Statement; decide
theorem evtConnected : Statement .evtConnected := by unfold Statement; decide
theorem evtLinkDown : Statement .evtLinkDown := by unfold Statement; decide

theorem evtMtuResult (granted : Bool) (value : Half) : Statement (.evtMtuResult granted value) := by
  unfold Statement
  apply BitVec.eq_of_getLsbD_eq
  intro i hi
  cases granted <;> simp [encode, tableRow, flagBit] <;> interval_cases i <;> simp

theorem evtDiscovery (svc chr : Bool) : Statement (.evtDiscovery svc chr) := by
  unfold Statement
  revert svc chr
  decide

theorem evtWriteDone (ok : Bool) : Statement (.evtWriteDone ok) := by
  unfold Statement
  revert ok
  decide

theorem evtScanHit : Statement .evtScanHit := by unfold Statement; decide

end Sys2Proof.Laws.TableRow
end

