-- ==== Sys2Proof/Laws/Quantizer.lean ====
section
/-! SUPPORT. The quantizer's arithmetic and packing: which bit of a packed byte is which pixel, and how the exact
comparison behaves at the ends of its range. -/

namespace Sys2Proof.Machine

/-- Bit j of a byte being packed: it was set before, or one of the pixels still to come is black and goes there. -/
theorem getLsbD_packFold (bit : Nat → Bool) {j : Nat} (h : j < 8) (ks : List Nat) (acc : Byte) :
    (ks.foldl (fun acc k => if bit k then acc ||| (1#8 <<< (7 - k)) else acc) acc).getLsbD j =
      (acc.getLsbD j || ks.any fun k => bit k && decide (7 - k = j)) := by
  induction ks generalizing acc with
  | nil => simp
  | cons k ks ih =>
    have hone : (1#8 <<< (7 - k)).getLsbD j = decide (7 - k = j) := by
      rw [BitVec.getLsbD_shiftLeft, BitVec.getLsbD_one]
      by_cases hj : 7 - k = j
      · simp [hj, h]
      · have : ¬ (7 - k ≤ j ∧ j - (7 - k) = 0) := by omega
        simp only [hj, decide_false, h, decide_true, Bool.true_and]
        by_cases h1 : j < 7 - k
        · simp [h1]
        · have h2 : j - (7 - k) ≠ 0 := by omega
          simp [h2]
    rw [List.foldl_cons, ih, List.any_cons]
    cases hb : bit k <;> simp [hone, Bool.or_assoc]

/-- Pixel k of eight is bit 7 − k of the packed byte (40_quantizer.md R208). -/
theorem getLsbD_packByte (bit : Nat → Bool) {j : Nat} (h : j < 8) : (packByte bit).getLsbD j = bit (7 - j) := by
  have hr : List.range 8 = [0, 1, 2, 3, 4, 5, 6, 7] := by decide
  have hj : j = 0 ∨ j = 1 ∨ j = 2 ∨ j = 3 ∨ j = 4 ∨ j = 5 ∨ j = 6 ∨ j = 7 := by omega
  rw [packByte, getLsbD_packFold bit h, hr]
  rcases hj with rfl | rfl | rfl | rfl | rfl | rfl | rfl | rfl <;> simp

/-- Bytes that agree at every bit of the packing are equal. -/
theorem packByte_eq {bit : Nat → Bool} {b : Byte} (h : ∀ k < 8, bit k = b.getLsbD (7 - k)) : packByte bit = b := by
  apply BitVec.eq_of_getLsbD_eq
  intro i hi
  rw [getLsbD_packByte bit hi, h (7 - i) (by omega)]
  congr 1
  omega

/-- The luma sum's range (40_quantizer.md R201). -/
theorem lumaSum_le (r g b : Byte) : lumaSum r g b ≤ 255000 := by
  have := r.isLt
  have := g.isLt
  have := b.isLt
  simp only [lumaSum]
  omega

theorem threshold_pos (m : Nat) : 0 < threshold m := by
  simp [threshold]

/-- The matrix is tiled by row y mod 4 and column x mod 4 (40_quantizer.md R203). -/
theorem bayer_eq (bayer4 : BayerMatrix) {x y : Nat} {i j : Fin 4} (hy : y % 4 = i) (hx : x % 4 = j) :
    bayer bayer4 x y = bayer4[i][j] := by
  simp [bayer, hy, hx]

/-- The band of thresholds, whatever the matrix (40_quantizer.md R204). -/
theorem threshold_bayer_bounds (bayer4 : BayerMatrix) (x y : Nat) :
    68 ≤ threshold (bayer bayer4 x y) ∧ threshold (bayer bayer4 x y) ≤ 188 := by
  have := (bayer bayer4 x y).isLt
  simp only [threshold]
  omega

/-- A darker pixel is black wherever a lighter one is (40_quantizer.md R206). -/
theorem isBlack_mono {g S S' t : Nat} (hS : S ≤ S') (h : isBlack g S' t = true) : isBlack g S t = true := by
  simp only [isBlack, decide_eq_true_eq] at h ⊢
  exact Nat.lt_of_le_of_lt (Nat.mul_le_mul_right _ (Nat.pow_le_pow_left hS 256)) h

/-- Luma 0 is black at every gamma (40_quantizer.md R210). -/
theorem isBlack_zero {g t : Nat} (ht : 0 < t) : isBlack g 0 t = true := by
  simp only [isBlack, decide_eq_true_eq]
  rw [Nat.zero_pow (by decide), Nat.zero_mul]
  exact Nat.mul_pos (Nat.pow_pos ht) (Nat.pow_pos (by decide))

/-- The greatest luma is white at every gamma (40_quantizer.md R210). -/
theorem isBlack_full {g t : Nat} (ht : t ≤ 255) : isBlack g 255000 t = false := by
  simp only [isBlack, decide_eq_false_iff_not, Nat.not_lt]
  rw [Nat.mul_comm]
  exact Nat.mul_le_mul_left _ (Nat.pow_le_pow_left ht g)

end Sys2Proof.Machine
end

