-- ==== Sys2Proof/Laws/Runs.lean ====
section
/-! SUPPORT. Runs: a sequence of operations is one after another, and what holds at reset and is kept by every step holds
of every reachable state. -/

namespace Sys2Proof.Machine

@[simp] theorem execs_nil (s : State) : execs [] s = .next s := rfl

theorem execs_cons_next {i : Instr} {is : List Instr} {s t : State} (h : exec i s = .next t) :
    execs (i :: is) s = execs is t := by simp [execs, h]

/-- A run of operations in two parts. -/
theorem execs_append_next {is js : List Instr} {s t : State} (h : execs is s = .next t) :
    execs (is ++ js) s = execs js t := by
  induction is generalizing s with
  | nil => cases h; rfl
  | cons i is ih =>
    simp only [List.cons_append, execs] at h ⊢
    split <;> simp_all

/-- A property of the block that reset has and every step keeps holds of every reachable state. -/
theorem reachable_induction {P : State → Prop} (hreset : ∀ bayer4 ins, P ((State.reset.withMatrix bayer4).withScript ins))
    (hstep : ∀ s t, P s → step s = .next t → P t) {t : State} (h : Reachable t) : P t := by
  obtain ⟨bayer4, ins, k, hk⟩ := h
  have key : ∀ (k : Nat) (s t : State), P s → Sys2Proof.core.run k s = .next t → P t := by
    intro k
    induction k with
    | zero =>
      intro s t hs hr
      cases hr
      exact hs
    | succ k ih =>
      intro s t hs hr
      simp only [Host.Core.run] at hr
      split at hr
      · next s' hs' => exact ih s' t (hstep s s' hs hs') hr
      · cases hr
      · cases hr
  exact key k _ t (hreset bayer4 ins) hk

end Sys2Proof.Machine
end

