-- ==== Sys2Proof/Laws/Session.lean ====
section
/-! SUPPORT. SEND's precondition, and what FRAME holds after it. -/

namespace Sys2Proof.Machine

theorem State.sendReady_iff (s : State) : s.sendReady = true ↔
    s.charValid = true ∧ (s.sess = .ready ∨ (s.sess = .failed ∧ s.failCause = .sendNack)) := by
  simp [State.sendReady]

/-- Byte `o` of FRAME after a SEND. -/
theorem Memory.peek_frame {m m' : Memory} {d o : Nat} (h : o < 4740) :
    (m.blit 0 4740 (m'.frameByte d)).peek o = some (m'.frameByte d o) := by
  rw [Memory.peek_blit]
  simp [h]

/-- The header chunk (42_session.md R318). -/
theorem Memory.bytesAt_frame_header (m m' : Memory) (d d' : Nat) :
    (m.blit 0 4740 (m'.frameByte d)).bytesAt d' 0 4 = [0x46#8, 0x42#8, 0x80#8, 0x12#8] := by
  have h : ∀ i < 4, (m.blit 0 4740 (m'.frameByte d)).byteAt d' i = m'.frameByte d i :=
    fun i hi => Memory.byteAt_of_peek (Memory.peek_frame (by omega)) _
  simp [Memory.bytesAt, List.range, List.range.loop, h, Memory.frameByte]

end Sys2Proof.Machine
end

