-- ==== Sys2Proof/Laws/Step.lean ====
section
/-! SUPPORT. What one step can do, once: `step_cases` lists every way a step ends, and the invariants and frames over steps
are read off it instead of off the step function. -/

namespace Sys2Proof.Machine

/-- The state a step starts its input from: the input is used up. -/
abbrev State.taken (s : State) (rest : List Input) : State := { s with inputs := rest }

theorem busCheck_cmd : busCheck 0#32 .b32 = .ok .page := by decide

/-- An access that passed its checks lies whole in its region, is aligned, and is a word in the register page. -/
theorem busCheck_ok {addr : Word} {w : Width} {r : Region} (h : busCheck addr w = .ok r) :
    regionOf addr.toNat w.bytes = some r ∧ addr.toNat % w.bytes = 0 ∧ (r = .page → w = .b32) := by
  unfold busCheck at h
  split at h
  · cases h
  · next r' hr =>
    split at h
    · cases h
    · next h1 =>
      split at h
      · cases h
      · next h2 =>
        cases h
        refine ⟨hr, by omega, fun hp => ?_⟩
        by_contra hw
        exact h1 ⟨hp, hw⟩

/-- Every way a step can end in a next state. -/
theorem step_cases {s t : State} (h : step s = .next t) :
    (s.inputs = [] ∧ t = s) ∨ ∃ x rest, s.inputs = x :: rest ∧
      ((x = .reset ∧ t = takeReset (s.taken rest)) ∨
       (∃ w i, x = .host (.write 0#32 .b32 w) ∧ decodeCmd w = .ok i ∧
          exec i ((s.taken rest).respond .done) = .next t) ∨
       (∃ w e, x = .host (.write 0#32 .b32 w) ∧ decodeCmd w = .error e ∧
          t = ((s.taken rest).respond .done).reject (lowByte w) .badCmd) ∨
       (∃ e i, x = .event e ∧ decodeEvt e = .ok i ∧ exec i (s.taken rest) = .next t) ∨
       (∃ e err, x = .event e ∧ decodeEvt e = .error err ∧ t = (s.taken rest).ignore) ∨
       (∃ a k, x = .host a ∧ t = (s.taken rest).respond (.error k)) ∨
       (∃ addr w v, x = .host (.read addr w) ∧
          (t = (s.taken rest).respond (.data v) ∨ t = ((s.taken rest).respond (.data v)).draw)) ∨
       (∃ addr v, x = .host (.write addr .b32 v) ∧ addr ≠ 0#32 ∧
          t = ((s.taken rest).writeReg addr.toNat v).respond .done) ∨
       (∃ addr w v r, x = .host (.write addr w v) ∧ r ≠ .page ∧ busCheck addr w = .ok r ∧
          t = ({ s with inputs := rest, mem := s.mem.writeLe addr.toNat w.bytes v.toNat } : State).respond .done)) := by
  unfold step takeNext at h
  split at h
  · next hi => exact .inl ⟨hi, by cases h; rfl⟩
  next x rest hi =>
  refine .inr ⟨x, rest, hi, ?_⟩
  cases x with
  | reset => exact .inl ⟨rfl, by cases h; rfl⟩
  | event e =>
    simp only [takeInput, takeEvent] at h
    cases hd : decodeEvt e with
    | ok i => rw [hd] at h; exact .inr (.inr (.inr (.inl ⟨e, i, rfl, hd, h⟩)))
    | error err =>
      rw [hd] at h
      exact .inr (.inr (.inr (.inr (.inl ⟨e, err, rfl, hd, by cases h; rfl⟩))))
  | host a =>
    cases a with
    | read addr w =>
      simp only [takeInput, busAccess] at h
      cases hc : busCheck addr w with
      | error k =>
        rw [hc] at h
        exact .inr (.inr (.inr (.inr (.inr (.inl ⟨_, k, rfl, by cases h; rfl⟩)))))
      | ok r =>
        rw [hc] at h
        simp only [busRead] at h
        refine .inr (.inr (.inr (.inr (.inr (.inr (.inl ?_))))))
        split at h
        · exact ⟨addr, w, _, rfl, .inl (by cases h; rfl)⟩
        · exact ⟨addr, w, _, rfl, .inr (by cases h; rfl)⟩
    | write addr w v =>
      simp only [takeInput, busAccess] at h
      cases hc : busCheck addr w with
      | error k =>
        rw [hc] at h
        exact .inr (.inr (.inr (.inr (.inr (.inl ⟨_, k, rfl, by cases h; rfl⟩)))))
      | ok r =>
        rw [hc] at h
        obtain ⟨_, _, hw⟩ := busCheck_ok hc
        simp only [busWrite] at h
        split at h
        · next hp =>
          have hw' := hw hp
          subst hw'
          split at h
          · next h0 =>
            have ha : addr = 0#32 := BitVec.eq_of_toNat_eq h0
            subst ha
            simp only [runCommand] at h
            cases hd : decodeCmd v with
            | ok i => rw [hd] at h; exact .inr (.inl ⟨v, i, rfl, hd, h⟩)
            | error e => rw [hd] at h; exact .inr (.inr (.inl ⟨v, e, rfl, hd, by cases h; rfl⟩))
          · next h0 =>
            refine .inr (.inr (.inr (.inr (.inr (.inr (.inr (.inl ⟨addr, v, rfl, ?_, by cases h; rfl⟩)))))))
            rintro rfl
            exact h0 rfl
        · next hp =>
          exact .inr (.inr (.inr (.inr (.inr (.inr (.inr (.inr ⟨addr, w, v, r, rfl, hp, hc, by cases h; rfl⟩)))))))

/-- A 32-bit write to CMD answers the host and runs the command (10_state.md R33). -/
theorem step_command {s : State} {w : Word} {rest : List Input} (h : s.inputs = .host (.write 0#32 .b32 w) :: rest) :
    step s = runCommand w ((s.taken rest).respond .done) := by
  simp [step, takeNext, h, takeInput, busAccess, busCheck_cmd, busWrite]

theorem step_event {s : State} {e : Word} {rest : List Input} (h : s.inputs = .event e :: rest) :
    step s = takeEvent e (s.taken rest) := by simp [step, takeNext, h, takeInput]

theorem step_reset {s : State} {rest : List Input} (h : s.inputs = .reset :: rest) :
    step s = .next (takeReset (s.taken rest)) := by simp [step, takeNext, h, takeInput]

theorem step_read {s : State} {addr : Word} {w : Width} {rest : List Input} {r : Region}
    (h : s.inputs = .host (.read addr w) :: rest) (hc : busCheck addr w = .ok r) :
    step s = .next (busRead r addr.toNat w (s.taken rest)) := by simp [step, takeNext, h, takeInput, busAccess, hc]

theorem step_write {s : State} {addr v : Word} {w : Width} {rest : List Input} {r : Region}
    (h : s.inputs = .host (.write addr w v) :: rest) (hc : busCheck addr w = .ok r) :
    step s = busWrite r addr.toNat w v (s.taken rest) := by simp [step, takeNext, h, takeInput, busAccess, hc]

/-- Register reads do not depend on the inputs still pending. -/
@[simp] theorem State.taken_readReg (s : State) (rest : List Input) (off : Nat) :
    (s.taken rest).readReg off = s.readReg off := by
  unfold State.readReg
  split <;> rfl

end Sys2Proof.Machine
end

