-- ==== Sys2Proof/Tests/Slice0.lean ====
section
/-! SUPPORT. Tests on fixed values taken from spec/95_test_vectors.md and the rules' own examples (the vector or rule is
named at each), and for every statement with hypotheses a concrete state that meets them. -/

namespace Sys2Proof.Tests

open Sys2Proof.Machine

/-! ## Well-formedness -/

/-- A byte write carries 8 bits of data (30_encoding.md R130). -/
theorem test_wellFormed_refuses_wide_byte :
    (BusAccess.write 0x10000#32 .b8 0x100#32).wellFormed = false ∧
    (BusAccess.write 0x10000#32 .b8 0xFF#32).wellFormed = true := by decide

/-- A halfword write carries 16 bits of data (30_encoding.md R130). -/
theorem test_wellFormed_refuses_wide_half :
    (BusAccess.write 0x10000#32 .b16 0x10000#32).wellFormed = false ∧
    (BusAccess.write 0x10000#32 .b16 0xFFFF#32).wellFormed = true := by decide

/-- An input is well formed when its access is (30_encoding.md R130). -/
theorem test_wellFormed_refuses_input :
    (Input.host (.write 0x10000#32 .b8 0x100#32)).wellFormed = false ∧
    (Input.event 0xFFFFFFFF#32).wellFormed = true := by decide

/-! ## Decoding: words written out from the tables of 30_encoding.md R122 and R126 -/

theorem test_decode_nop : decodeTableWord 32 0b00000000_00000000_00000000_00000000 = some .nop := by decide
theorem test_decode_quantize : decodeTableWord 32 0b00000000_00000000_00000000_00000001 = some .quantize := by decide
theorem test_decode_unpack : decodeTableWord 32 0b00000000_00000000_00000000_00000010 = some .unpack := by decide
theorem test_decode_bmpEncode : decodeTableWord 32 0b00000000_00000000_00000000_00000011 = some .bmpEncode := by decide
theorem test_decode_bmpDecode : decodeTableWord 32 0b00000000_00000000_00000000_00000100 = some .bmpDecode := by decide
theorem test_decode_connect : decodeTableWord 32 0b00000000_00000000_00000000_00010000 = some .connect := by decide
theorem test_decode_disconnect : decodeTableWord 32 0b00000000_00000000_00000000_00010001 = some .disconnect := by decide
theorem test_decode_send : decodeTableWord 32 0b00000000_00000000_00000000_00010010 = some .send := by decide
theorem test_decode_scanStart : decodeTableWord 32 0b00000000_00000000_00000000_00011000 = some .scanStart := by decide
theorem test_decode_scanStop : decodeTableWord 32 0b00000000_00000000_00000000_00011001 = some .scanStop := by decide
theorem test_decode_evtConnected :
    decodeTableWord 32 0b00000000_00000000_00000000_10000000 = some .evtConnected := by decide
theorem test_decode_evtLinkDown :
    decodeTableWord 32 0b00000000_00000000_00000000_10000001 = some .evtLinkDown := by decide

/-- `EVT MTU_RESULT granted=1 mtu=185` is 0x00B9_0182 (95_test_vectors.md section 1). -/
theorem test_decode_evtMtuResult :
    decodeTableWord 32 0b00000000_10111001_00000001_10000010 = some (.evtMtuResult true 185#16) := by decide

/-- `EVT DISCOVERY svc=1 chr=0` is 0x0000_0183 (95_test_vectors.md section 1). -/
theorem test_decode_evtDiscovery :
    decodeTableWord 32 0b00000000_00000000_00000001_10000011 = some (.evtDiscovery true false) := by decide

/-- `EVT WRITE_DONE ok=1` is 0x0000_0184 (95_test_vectors.md section 1). -/
theorem test_decode_evtWriteDone :
    decodeTableWord 32 0b00000000_00000000_00000001_10000100 = some (.evtWriteDone true) := by decide
theorem test_decode_evtScanHit :
    decodeTableWord 32 0b00000000_00000000_00000000_10000101 = some .evtScanHit := by decide

/-- Reserved words of either port name their reason (30_encoding.md R124, R128). -/
theorem test_decode_reserved :
    decodeCmd 0x00000101#32 = .error .reservedCommandBits ∧ decodeCmd 0x00000005#32 = .error .unknownOpcode ∧
    decodeEvt 0x00000180#32 = .error .reservedEventBits ∧ decodeEvt 0x00000086#32 = .error .unknownEvent := by decide

/-- The rows of spec/opcode_table.json. -/
def rows : List (Word × Word) :=
  [.nop, .quantize, .unpack, .bmpEncode, .bmpDecode, .connect, .disconnect, .send].map tableRow ++
  [.scanStart, .scanStop, .evtConnected, .evtLinkDown, .evtMtuResult false 0#16, .evtDiscovery false false].map tableRow ++
  [.evtWriteDone false, .evtScanHit].map tableRow

/-- No word lies in two rows: any two differ in a bit both masks cover. -/
theorem test_rows_do_not_overlap :
    rows.Pairwise (fun r r' => (r.1 ^^^ r'.1) &&& r.2 &&& r'.2 ≠ 0#32) := by decide +kernel

/-! ## States the tests start from -/

/-- The session in state `n` with nothing outstanding. -/
def inState (n : SessState) : State := { State.reset with sess := n }

/-- READY with the characteristic found. -/
def readyState : State := { State.reset with sess := .ready, charValid := true }

/-- SENDING with the header chunk outstanding, FRAME full. -/
def sendingState : State :=
  { readyState with
    sess := .sending, inFlight := true, inflightLen := 4#16, txOffset := 4#32, expectedTotal := 4740#32
    frame := Memory.blit [] 0 4740 fun o => frameHeader.getD o 0#8 }

/-- SENDING at MTU 23 with the first payload chunk outstanding, four bytes acknowledged. -/
def midSend : State :=
  { State.reset with
    sess := .sending, charValid := true, inFlight := true, inflightLen := 20#16, sentTotal := 4#32, txOffset := 24#32
    expectedTotal := 4740#32 }

/-- SENDING with the last chunk outstanding. -/
def lastChunk : State := { midSend with inflightLen := 16#16, sentTotal := 4724#32, txOffset := 4740#32 }

/-- Bytes at consecutive addresses. -/
def bytesFrom (a : Nat) (bs : List Byte) : Memory := (List.range bs.length).map fun i => (a + i, bs.getD i 0#8)

/-- Eight canvas pixels of grey `v` from pixel (0, y) on. -/
def greyEight (y : Nat) (v : Byte) : Memory := bytesFrom (0x40000 + 512 * y) (List.replicate 32 v)

/-- A file's 62 header bytes with the height field given, and FILE_LEN 4798. -/
def fileState (height : List Byte) : State :=
  { State.reset with
    mem := bytesFrom 0x20000 (bmpHeader.take 22 ++ height ++ bmpHeader.drop 26) ++ bytesFrom 0x212AE [0xF0#8]
    fileLen := 4798#32 }

/-- A matrix other than the default: 15 at the last place of row 1, else 0. -/
def otherMatrix : BayerMatrix := #v[#v[0, 0, 0, 0], #v[0, 0, 0, 15], #v[0, 0, 0, 0], #v[0, 0, 0, 0]]

/-- What holds of the next state, if there is one. -/
def after (o : Host.Outcome State Fault Refusal) (p : State → Bool) : Bool :=
  match o with
  | .next t => p t
  | _ => false

/-! ## One step of each operation -/

/-- R290: RESULT = 0 after NOP. -/
theorem test_nop : after (exec .nop { State.reset with resultCode := .busy, resultOpcode := 0x12#8 })
    (fun t => t.readReg 0x004 == 0#32) = true := by decide

/-- Q5: grey 100 gives row byte 0xBB on row 1, white where luma equals T = 100. -/
theorem test_quantize_equal_is_white : after (exec .quantize { State.reset with mem := greyEight 1 100#8 })
    (fun t => t.mem.peek (0x10000 + 16) == some 0xBB#8) = true := by decide +kernel

/-- Q17: at γ = 2 grey 64 gives 0x55 on row 0. -/
theorem test_quantize_gamma_two : after (exec .quantize { State.reset with qgamma := 0x200#16, mem := greyEight 0 64#8 })
    (fun t => t.mem.peek 0x10000 == some 0x55#8) = true := by decide +kernel

/-- R16, R203: under `otherMatrix` grey 100 is black on row 1 at x = 3 and x = 7 alone (T = 188 there, 68 elsewhere). -/
theorem test_quantize_other_matrix :
    after (exec .quantize ({ State.reset with mem := greyEight 1 100#8 }.withMatrix otherMatrix))
      (fun t => t.mem.peek (0x10000 + 16) == some 0x11#8) = true := by decide +kernel

/-- U1: pixel (9, 1) reads 0xFF000000. -/
theorem test_unpack_black : after (exec .unpack { State.reset with mem := bytesFrom 0x10011 [0x40#8] })
    (fun t => t.mem.readLe 0 0x40224 4 == 0xFF000000 && t.readReg 0x004 == 0x200#32) = true := by decide +kernel

/-- U1: a clear bit gives 0xFFFFFFFF. -/
theorem test_unpack_white : after (exec .unpack { State.reset with mem := bytesFrom 0x10000 [0x80#8] })
    (fun t => t.mem.readLe 0 0x40004 4 == 0xFFFFFFFF) = true := by decide +kernel

/-- E1: words of the header. -/
theorem test_encode_header : after (exec .bmpEncode State.reset)
    (fun t => t.mem.readLe 0 0x20000 4 == 0x12BE4D42 && t.mem.readLe 0 0x20014 4 == 0xFED80000 &&
      t.fileLen == 4798#32) = true := by decide +kernel

/-- E2: FB byte 0 is FILE byte 62. -/
theorem test_encode_row : after (exec .bmpEncode { State.reset with mem := bytesFrom 0x10000 [0x80#8] })
    (fun t => t.mem.peek (0x20000 + 62) == some 0x80#8) = true := by decide +kernel

/-- D2: height +296 is bottom-up, so FB byte 0 comes from file row 295 (byte 62 + 4720 = 0x12AE). -/
theorem test_decode_bottom_up : after (exec .bmpDecode (fileState [0x28#8, 0x01#8, 0x00#8, 0x00#8]))
    (fun t => t.readReg 0x004 == 0x400#32 && t.mem.peek 0x10000 == some 0xF0#8) = true := by decide +kernel

/-- D13: height −295 is NO_MATCH, which sets no CMD_ERR. -/
theorem test_decode_wrong_height : after (exec .bmpDecode (fileState [0xD9#8, 0xFE#8, 0xFF#8, 0xFF#8]))
    (fun t => t.readReg 0x004 == 0x401#32 && t.intStatus == 0#8 && t.mem.peek 0x10000 == none) = true := by
  decide +kernel

/-- R300's example: a scan is stopped before the connection attempt. -/
theorem test_connect_stops_scan : after (exec .connect { State.reset with scanActive := true })
    (fun t => t.requests == [.scanStop, .connect] && t.readReg 0x008 == 0x001#32) = true := by decide

/-- R300: from FAILED the link is dropped first. -/
theorem test_connect_from_failed : after (exec .connect { inState .failed with failCause := .linkLost })
    (fun t => t.requests == [.disconnect, .connect] && t.failCause == .noCause) = true := by decide

/-- R301's example. -/
theorem test_disconnect_in_sending : after (exec .disconnect { midSend with txOffset := 64#32 })
    (fun t => t.requests == [.disconnect] && t.readReg 0x008 == 0x007#32 && t.intStatus == 0x05#8) = true := by decide

/-- R320: SESSION = 0x305 and the header chunk is the first write. -/
theorem test_send_header : after (exec .send readyState)
    (fun t => t.readReg 0x008 == 0x305#32 && t.requests == [.write [0x46#8, 0x42#8, 0x80#8, 0x12#8]] &&
      t.readReg 0x030 == 4#32) = true := by decide +kernel

/-- R320: not ready without a characteristic. -/
theorem test_send_not_ready : after (exec .send State.reset)
    (fun t => t.readReg 0x004 == 0x1202#32 && t.intStatus == 0x08#8 && t.requests == []) = true := by decide

/-- R330's example. -/
theorem test_scan_start : after (exec .scanStart { State.reset with scanHits := 5#32 })
    (fun t => t.requests == [.scanStart] && t.scanActive && t.scanHits == 0#32) = true := by decide

/-- R331's example. -/
theorem test_scan_stop : after (exec .scanStop { State.reset with scanActive := true, scanHits := 5#32 })
    (fun t => t.requests == [.scanStop] && !t.scanActive && t.scanHits == 5#32) = true := by decide

/-- R310: the MTU request carries PREF_MTU. -/
theorem test_evt_connected : after (exec .evtConnected (inState .connecting))
    (fun t => t.requests == [.requestMtu 247#16] && t.sess == .negotiatingMtu) = true := by decide

/-- R311: without a grant MTU is 23 whatever VALUE says. -/
theorem test_evt_mtu_not_granted : after (exec (.evtMtuResult false 247#16) (inState .negotiatingMtu))
    (fun t => t.mtu == 23#16 && t.requests == [.discover]) = true := by decide

/-- R311: a granted value is stored as it stands. -/
theorem test_evt_mtu_granted : after (exec (.evtMtuResult true 185#16) (inState .negotiatingMtu))
    (fun t => t.mtu == 185#16 && t.readReg 0x020 == 182#32) = true := by decide

/-- R312: service found, characteristic not. -/
theorem test_evt_discovery_no_char : after (exec (.evtDiscovery true false) (inState .discovering))
    (fun t => t.readReg 0x008 == 0x036#32 && t.intStatus == 0x41#8) = true := by decide

/-- R312: no service, whatever the characteristic flag says. -/
theorem test_evt_discovery_no_service : after (exec (.evtDiscovery false true) (inState .discovering))
    (fun t => t.readReg 0x008 == 0x026#32) = true := by decide

/-- R321: an acknowledgment counts 20 bytes and issues the next 20. -/
theorem test_evt_write_done_next : after (exec (.evtWriteDone true) midSend)
    (fun t => t.sentTotal == 24#32 && t.txOffset == 44#32 && t.readReg 0x034 == 235#32) = true := by decide +kernel

/-- R321: the last acknowledgment ends the send. -/
theorem test_evt_write_done_last : after (exec (.evtWriteDone true) lastChunk)
    (fun t => t.sentTotal == 4740#32 && t.sess == .ready && t.intStatus == 0x03#8) = true := by decide

/-- R340's example. -/
theorem test_evt_link_down : after (exec .evtLinkDown (inState .discovering))
    (fun t => t.readReg 0x008 == 0x047#32 && t.intStatus == 0x81#8) = true := by decide

/-- R345: SCAN_HITS wraps. -/
theorem test_evt_scan_hit_wraps : after (exec .evtScanHit { State.reset with scanActive := true, scanHits := 0xFFFFFFFF#32 })
    (fun t => t.scanHits == 0#32 && t.intStatus == 0x20#8) = true := by decide

/-! ## The bus -/

/-- R403's examples: the kinds in their order. -/
theorem test_bus_errors :
    busCheck 0x101#32 .b16 = .error .unmapped ∧ busCheck 0x3#32 .b8 = .error .width ∧
    busCheck 0x10002#32 .b32 = .error .misaligned := by decide

/-- R88's example: 0x4433_2211 at FILE offset 0, then a halfword at 2. -/
theorem test_bus_little_endian :
    after (busAccess (.write 0x20000#32 .b32 0x44332211#32) State.reset)
      (fun t => t.mem == [(0x20000, 0x11#8), (0x20001, 0x22#8), (0x20002, 0x33#8), (0x20003, 0x44#8)] &&
        t.mem.readLe 0 0x20002 2 == 0x4433) = true := by decide +kernel

/-- A number as a word. -/
def w32 (n : Nat) : Word := BitVec.ofNat 32 n

/-- A number as a halfword. -/
def w16 (n : Nat) : Half := BitVec.ofNat 16 n

/-! ## Witnesses: states and operands that meet a statement's hypotheses, each clause at its boundaries -/

theorem witness_ReservedCommandChangesOnlyResult :
    ∀ n ∈ [0x100, 0xFFFFFF00, 0x5, 0xF, 0x13, 0x17, 0x1A, 0xFF],
      CommandNext (State.reset.withScript [wrWord 0#32 (w32 n)]) (w32 n) [] ∧
      (256 ≤ (w32 n).toNat ∨ (5 ≤ (w32 n).toNat ∧ (w32 n).toNat ≤ 0x0F) ∨
        (0x13 ≤ (w32 n).toNat ∧ (w32 n).toNat ≤ 0x17) ∨ 0x1A ≤ (w32 n).toNat) := by
  unfold CommandNext
  decide

theorem witness_ReservedEventOnlySetsIgnored :
    ∀ n ∈ [0x0, 0x7F, 0x86, 0xFF, 0x180, 0x10081, 0x80000085, 0x282, 0xFFFFFF82, 0x483,
        0x10083, 0x284, 0x80000084],
      (State.reset.withScript [.event (w32 n)]).inputs = .event (w32 n) :: [] ∧
      ((w32 n).toNat % 256 < 0x80 ∨ 0x86 ≤ (w32 n).toNat % 256 ∨
        ((w32 n).toNat % 256 ≠ 0x82 ∧ (w32 n).toNat % 256 ≠ 0x83 ∧ (w32 n).toNat % 256 ≠ 0x84 ∧
          256 ≤ (w32 n).toNat) ∨
        ((w32 n).toNat % 256 = 0x82 ∧ 2 ≤ (w32 n).toNat / 256 % 256) ∨
        ((w32 n).toNat % 256 = 0x83 ∧ 1024 ≤ (w32 n).toNat) ∨
        ((w32 n).toNat % 256 = 0x84 ∧ 512 ≤ (w32 n).toNat)) := by decide

theorem witness_DecodeEncodeAgree :
    (Instr.evtMtuResult true 0xFFFF#16).wellFormed = true ∧ Instr.nop.isEvent = false ∧
    Instr.evtScanHit.isEvent = true ∧ decodeCmd 0x19#32 = .ok .scanStop ∧ decodeEvt 0x85#32 = .ok .evtScanHit := by decide

theorem witness_StepRunsDecoded :
    (CommandNext (readyState.withScript [deliver .send]) 0x12#32 [] ∧ decodeCmd 0x12#32 = .ok .send) ∧
    ((readyState.withScript [deliver .evtLinkDown]).inputs = .event 0x81#32 :: [] ∧
      decodeEvt 0x81#32 = .ok .evtLinkDown) := by
  unfold CommandNext
  decide

theorem witness_ParkedForEver : sendingState.inputs = [] := rfl

theorem witness_WaitingStatesLeftOnlyByEventOrDisconnect :
    ∀ n ∈ [SessState.connecting, .negotiatingMtu, .discovering, .sending],
      after (step ((inState n).withScript [deliver .disconnect])) (fun t => t.sess != n) = true ∧
      after (step ((inState n).withScript [.reset])) (fun t => t.sess != n) = true ∧
      after (step ((inState n).withScript [.event 0x81#32])) (fun t => t.sess != n) = true := by decide

theorem witness_ResetInputLoadsResetValues : (midSend.withScript [.reset]).inputs = .reset :: [] := rfl

/-- The reset state meets the invariants. -/
theorem reset_inv : State.reset.Inv := by
  constructor <;> simp [State.reset, Memory.wf]

/-- READY meets them. -/
theorem ready_inv : readyState.Inv := by
  constructor <;> simp [readyState, State.reset, Memory.wf]

/-- SENDING with the header outstanding meets them. -/
theorem sending_inv : sendingState.Inv := by
  have hp : ∀ o < 4740, sendingState.frame.peek o = some (frameHeader.getD o 0#8) := by
    intro o ho
    rw [show sendingState.frame = Memory.blit [] 0 4740 fun o => frameHeader.getD o 0#8 from rfl,
      Memory.peek_blit_in (by omega) (by omega)]
    rfl
  constructor
  case mem_wf => exact Memory.wf_nil
  case frame_wf =>
    rw [show sendingState.frame = Memory.blit [] 0 4740 fun o => frameHeader.getD o 0#8 from rfl]
    exact Memory.wf_blit Memory.wf_nil _ _ _
  case frame_mapped =>
    intro c hc
    rw [show sendingState.frame = Memory.blit [] 0 4740 fun o => frameHeader.getD o 0#8 from rfl] at hc
    rcases Memory.mem_blit hc with h | h
    · cases h
    · simpa using h.2
  case sending_frame =>
    intro _
    refine ⟨fun o ho => by rw [hp o ho]; simp, fun o ho => ?_⟩
    rw [hp o (Nat.lt_trans ho (by decide))]
    have : o = 0 ∨ o = 1 ∨ o = 2 ∨ o = 3 := by simp at ho; omega
    rcases this with rfl | rfl | rfl | rfl <;> rfl
  all_goals simp [sendingState, readyState, State.reset]

/-- The invariants do not speak of the inputs. -/
theorem inv_withScript {s : State} (h : s.Inv) (ins : List Input) : (s.withScript ins).Inv :=
  h.of_same rfl rfl rfl rfl rfl rfl rfl rfl id h.fileLen_le h.mem_wf h.mem_mapped rfl fun _ => id

theorem witness_StepKeepsInvariant :
    (sendingState.withScript [deliver (.evtWriteDone true)]).Inv ∧
    ∃ t, step (sendingState.withScript [deliver (.evtWriteDone true)]) = .next t :=
  ⟨inv_withScript sending_inv _, _, rfl⟩

theorem witness_ReachableInvariant :
    (∃ t, Reachable t ∧ t.sess = .connecting ∧ ∃ u, step t = .next u) ∧ Reachable State.reset ∧
    Reachable (State.reset.withMatrix otherMatrix) :=
  ⟨⟨_, ⟨bayerDefault, [deliver .connect], 1, rfl⟩, rfl, _, rfl⟩, ⟨bayerDefault, [], 0, rfl⟩, otherMatrix, [], 0, rfl⟩

theorem witness_StateChgExactlyOnChange :
    (∃ t, exec .connect State.reset = .next t) ∧ (∃ t, exec .disconnect (inState .disconnected) = .next t) ∧
    (∃ t, runCommand 0xFF#32 State.reset = .next t) := ⟨⟨_, rfl⟩, ⟨_, rfl⟩, _, rfl⟩

theorem witness_ResultAndCmdErr :
    (∃ t, runCommand 0x12#32 State.reset = .next t) ∧ (∃ t, runCommand 0xFFFFFF00#32 State.reset = .next t) ∧
    (∃ t, takeEvent 0x80#32 State.reset = .next t) := ⟨⟨_, rfl⟩, ⟨_, rfl⟩, _, rfl⟩

theorem witness_EachStatusBitHasItsCause :
    after (exec (.evtWriteDone true) lastChunk) (fun t => !lastChunk.flag .sendDone && t.flag .sendDone) = true ∧
    after (exec (.evtWriteDone false) midSend) (fun t => !midSend.flag .sendFail && t.flag .sendFail) = true ∧
    after (exec .disconnect midSend) (fun t => !midSend.flag .sendFail && t.flag .sendFail) = true ∧
    after (exec .evtLinkDown midSend) (fun t => !midSend.flag .sendFail && t.flag .sendFail) = true ∧
    after (exec .evtConnected readyState) (fun t => !readyState.flag .evtIgnored && t.flag .evtIgnored) = true ∧
    after (exec .evtScanHit { State.reset with scanActive := true })
      (fun t => !State.reset.flag .scanHit && t.flag .scanHit) = true ∧
    after (exec (.evtDiscovery false true) (inState .discovering))
      (fun t => !State.reset.flag .notFound && t.flag .notFound) = true ∧
    after (exec .evtLinkDown State.reset) (fun t => !State.reset.flag .linkLost && t.flag .linkLost) = true ∧
    after (exec .nop { State.reset with intStatus := 0xFF#8 }) (fun t => t.flag .sendDone) = true := by decide

theorem witness_MtuChangesOnlyInConnectOrMtuResult :
    after (step ({ State.reset with mtu := 185#16 }.withScript [.reset])) (fun t => t.mtu != 185#16) = true ∧
    after (step ({ State.reset with mtu := 185#16 }.withScript [deliver .connect])) (fun t => t.mtu != 185#16) = true ∧
    after (step ((inState .negotiatingMtu).withScript [deliver (.evtMtuResult true 0#16)]))
      (fun t => t.mtu != 23#16) = true ∧
    after (step ({ inState .negotiatingMtu with mtu := 185#16 }.withScript [deliver (.evtMtuResult false 0#16)]))
      (fun t => t.mtu != 185#16) = true := by decide

theorem witness_FrameWrittenOnlyBySend :
    after (step (readyState.withScript [deliver .send])) (fun t => t.frame.peek 0 != readyState.frame.peek 0) = true ∧
    after (step (sendingState.withScript [.reset])) (fun t => t.frame.peek 0 != sendingState.frame.peek 0) = true := by decide +kernel

theorem witness_OneWriteOutstanding :
    ((readyState.withScript [deliver .send]).Inv ∧ (∃ t, step (readyState.withScript [deliver .send]) = .next t) ∧
      ∀ rest, (readyState.withScript [deliver .send]).inputs ≠ .reset :: rest) ∧
    ((sendingState.withScript [deliver (.evtWriteDone true)]).Inv ∧
      (∃ t, step (sendingState.withScript [deliver (.evtWriteDone true)]) = .next t) ∧
      ∀ rest, (sendingState.withScript [deliver (.evtWriteDone true)]).inputs ≠ .reset :: rest) :=
  ⟨⟨inv_withScript ready_inv _, ⟨_, rfl⟩, by simp [deliver, inputOfWord, isEventWord, encode]⟩,
    inv_withScript sending_inv _, ⟨_, rfl⟩, by simp [deliver, inputOfWord, isEventWord, encode, flagBit]⟩

theorem witness_TransitionTable :
    (State.reset.Inv ∧ ∃ t, exec .connect State.reset = .next t) ∧
    (readyState.Inv ∧ ∃ t, exec .send readyState = .next t) ∧
    (sendingState.Inv ∧ ∃ t, exec (.evtWriteDone false) sendingState = .next t) :=
  ⟨⟨reset_inv, _, rfl⟩, ⟨ready_inv, _, rfl⟩, sending_inv, _, rfl⟩

theorem witness_UnexpectedEventIgnored :
    Unexpected 0x86#32 State.reset ∧ Unexpected 0x80#32 (inState .negotiatingMtu) ∧
    Unexpected 0x00F70182#32 (inState .discovering) ∧ Unexpected 0x383#32 readyState ∧ Unexpected 0x184#32 readyState ∧
    Unexpected 0x84#32 (inState .sending) ∧ Unexpected 0x85#32 State.reset ∧
    (State.reset.withScript [.event 0x86#32]).inputs = .event 0x86#32 :: [] :=
  ⟨trivial, by show SessState.negotiatingMtu ≠ .connecting; decide,
    by show SessState.discovering ≠ .negotiatingMtu; decide, by show SessState.ready ≠ .discovering; decide,
    by show SessState.ready ≠ .sending ∨ false = false; decide, Or.inr rfl, rfl, rfl⟩

theorem witness_PreconditionFailureChangesNothingElse :
    after (exec .connect readyState) (fun t => t.resultCode == .busy) = true ∧
    after (exec .send midSend) (fun t => t.resultCode == .busy) = true ∧
    after (exec .send State.reset) (fun t => t.resultCode == .notReady) = true ∧
    after (exec .scanStart readyState) (fun t => t.resultCode == .busy) = true ∧
    Instr.connect.isEvent = false ∧ Instr.send.isEvent = false ∧ Instr.scanStart.isEvent = false := by decide

theorem witness_ConnectResult :
    (∀ n ∈ [SessState.idle, .disconnected, .failed], (inState n).sess = .idle ∨ (inState n).sess = .disconnected ∨
      (inState n).sess = .failed) ∧
    ∀ n ∈ [SessState.connecting, .negotiatingMtu, .discovering, .ready, .sending],
      (inState n).sess = .connecting ∨ (inState n).sess = .negotiatingMtu ∨ (inState n).sess = .discovering ∨
      (inState n).sess = .ready ∨ (inState n).sess = .sending := by decide

theorem witness_EvtConnectedResult :
    (inState .connecting).sess = .connecting ∧ (inState .negotiatingMtu).sess ≠ .connecting := by decide

theorem witness_EvtMtuResultResult :
    (inState .negotiatingMtu).sess = .negotiatingMtu ∧ (inState .connecting).sess ≠ .negotiatingMtu := by decide

theorem witness_EvtDiscoveryResult :
    ((inState .discovering).sess = .discovering ∧ (true = true ∧ true = true)) ∧
    (∀ f ∈ [(true, false), (false, true), (false, false)], ¬ (f.1 = true ∧ f.2 = true)) ∧
    readyState.sess ≠ .discovering := by decide

theorem witness_SendResult :
    (readyState.charValid = true ∧ (readyState.sess = .ready ∨
      (readyState.sess = .failed ∧ readyState.failCause = .sendNack))) ∧
    (∀ s ∈ [{ readyState with sess := .failed, failCause := .sendNack }],
      s.charValid = true ∧ (s.sess = .ready ∨ (s.sess = .failed ∧ s.failCause = .sendNack))) ∧
    midSend.sess = .sending ∧
    (∀ s ∈ [State.reset, { inState .failed with failCause := .linkLost }], s.sess ≠ .sending ∧
      ¬ (s.charValid = true ∧ (s.sess = .ready ∨ (s.sess = .failed ∧ s.failCause = .sendNack)))) := by decide

theorem witness_EvtWriteDoneResult :
    (∀ s ∈ [midSend, { midSend with txOffset := 4739#32 }],
      s.sess = .sending ∧ s.inFlight = true ∧ s.txOffset.toNat < 4740) ∧
    (lastChunk.sess = .sending ∧ lastChunk.inFlight = true ∧ 4740 ≤ lastChunk.txOffset.toNat) ∧
    (readyState.sess ≠ .sending ∨ readyState.inFlight = false) ∧
    ((inState .sending).sess ≠ .sending ∨ (inState .sending).inFlight = false) := by decide

theorem witness_ScanStartResult :
    (∀ s ∈ [State.reset, inState .disconnected], (s.sess = .idle ∨ s.sess = .disconnected) ∧ s.scanActive = false) ∧
    (∀ s ∈ [{ State.reset with scanActive := true }, { inState .disconnected with scanActive := true }],
      (s.sess = .idle ∨ s.sess = .disconnected) ∧ s.scanActive = true) ∧
    (∀ n ∈ [SessState.connecting, .failed], ¬ ((inState n).sess = .idle ∨ (inState n).sess = .disconnected)) := by decide

theorem witness_EvtScanHitResult :
    ({ State.reset with scanActive := true } : State).scanActive = true ∧ State.reset.scanActive = false := by decide

theorem witness_QuantizeResult :
    State.reset.qgamma ≠ 0#16 ∧ ({ State.reset with qgamma := 1#16 } : State).qgamma ≠ 0#16 ∧
    ({ State.reset with qgamma := 0xFFFF#16 } : State).qgamma ≠ 0#16 ∧
    ({ State.reset with qgamma := 0#16 } : State).qgamma = 0#16 := by decide

theorem witness_ThresholdTile :
    (∀ p ∈ [(0, (0 : Fin 4)), (3, 3), (4, 0), (295, 3)], p.1 % 4 = (p.2 : Nat)) := by decide

theorem witness_MatrixNeverChanges :
    after (step ((State.reset.withMatrix otherMatrix).withScript [.reset])) (fun t => t.bayer4 == otherMatrix) = true ∧
    after (step (readyState.withScript [deliver .send])) (fun t => t.bayer4 == bayerDefault) = true := by
  decide +kernel

theorem witness_IntegerFormIsRealComparison : 1 ≤ 1 ∧ 1 ≤ 0xFFFF := by decide

/-- A canvas whose bytes are all `v`. -/
def plainCanvas (v : Byte) : State := { State.reset with mem := Memory.blit [] 0x40000 151552 fun _ => v }

/-- Every colour byte of a plain canvas is its value. -/
theorem plainCanvas_read (v : Byte) : ∀ x < 128, ∀ y < 296, ∀ c < 3, canvasRead (plainCanvas v) x y c = v := by
  intro x hx y hy c hc
  have h : (plainCanvas v).mem.peek (0x40000 + (4 * (128 * y + x) + c)) = some v :=
    Memory.peek_blit_add (m := []) (a := 0x40000) (n := 151552) (f := fun _ => v) (by omega)
  exact Memory.byteAt_of_peek h _

theorem witness_WhiteAndBlackCanvas :
    (plainCanvas 255#8).qgamma ≠ 0#16 ∧
    (∀ x < 128, ∀ y < 296, ∀ c < 3, canvasRead (plainCanvas 255#8) x y c = 255#8) ∧
    (∀ x < 128, ∀ y < 296, ∀ c < 3, canvasRead (plainCanvas 0#8) x y c = 0#8) :=
  ⟨(by decide : State.reset.qgamma ≠ 0#16), plainCanvas_read _, plainCanvas_read _⟩

theorem witness_QuantizeReadsOnlyColourAndGamma :
    ∃ s s' : State, s ≠ s' ∧ s.bayer4 = s'.bayer4 ∧ s.qgamma = s'.qgamma ∧ s.qgamma ≠ 0#16 ∧
      ∀ x < 128, ∀ y < 296, ∀ c < 3, canvasRead s x y c = canvasRead s' x y c :=
  ⟨State.reset, readyState, by decide, rfl, rfl, by decide, fun _ _ _ _ _ _ => rfl⟩

theorem witness_UnpackThenQuantizeRestoresFb : State.reset.qgamma ≠ 0#16 := by decide

/-- A file with no palette: offset 54, 4790 bytes. -/
def noPalette : State :=
  { State.reset with
    mem := bytesFrom 0x20000 (bmpHeader.take 10 ++ [0x36#8] ++ (bmpHeader.drop 11).take 43), fileLen := 4790#32 }

/-- A top-down file with a palette. -/
theorem topDown_matches : FileMatches (fileRead (fileState [0xD8#8, 0xFE#8, 0xFF#8, 0xFF#8])) 4798 := by
  unfold FileMatches
  decide +kernel

/-- A bottom-up file with a palette. -/
theorem bottomUp_matches : FileMatches (fileRead (fileState [0x28#8, 0x01#8, 0x00#8, 0x00#8])) 4798 := by
  unfold FileMatches
  decide +kernel

/-- A file without a palette, and the same one byte short. -/
theorem noPalette_matches : FileMatches (fileRead noPalette) 4790 ∧ ¬ FileMatches (fileRead noPalette) 4789 := by
  unfold FileMatches
  decide +kernel

theorem witness_DecodeResult :
    (∃ s : State, s.fileLen = 4798#32 ∧ FileMatches (fileRead s) s.fileLen.toNat ∧ le32 (fileRead s) 22 = 296) ∧
    (∃ s : State, FileMatches (fileRead s) s.fileLen.toNat ∧ le32 (fileRead s) 22 = 2 ^ 32 - 296) ∧
    (∃ s : State, FileMatches (fileRead s) s.fileLen.toNat ∧ le32 (fileRead s) 10 = 54) ∧
    (∃ s : State, ¬ FileMatches (fileRead s) s.fileLen.toNat) :=
  ⟨⟨_, rfl, bottomUp_matches, by decide +kernel⟩, ⟨_, topDown_matches, by decide +kernel⟩,
    ⟨_, noPalette_matches.1, by decide +kernel⟩, ⟨{ noPalette with fileLen := 4789#32 }, noPalette_matches.2⟩⟩

theorem witness_ReencodeKeepsPixels :
    FileMatches (fileRead (fileState [0x28#8, 0x01#8, 0x00#8, 0x00#8])) 4798 ∧
    (fileState [0x28#8, 0x01#8, 0x00#8, 0x00#8]).fileLen.toNat = 4798 := ⟨bottomUp_matches, rfl⟩

theorem witness_BusErrorsChangeNothing :
    (∀ p ∈ [(0x100, Width.b8), (0xFF, Width.b16), (0xFFFF, Width.b8), (0x11280, Width.b8), (0x1127D, Width.b32),
        (0x22000, Width.b8), (0x65000, Width.b8), (0xFFFFFFFF, Width.b32)],
      ¬ InPage p.1 p.2.bytes ∧ ¬ InBuffer p.1 p.2.bytes) ∧
    (∀ p ∈ [(0x0, Width.b8), (0xFF, Width.b8), (0xFE, Width.b16)], InPage p.1 p.2.bytes ∧ p.2 ≠ .b32) ∧
    (∀ p ∈ [(0x1, Width.b32), (0xFB, Width.b32)], (InPage p.1 p.2.bytes ∧ p.2 = .b32) ∧ p.1 % p.2.bytes ≠ 0) ∧
    (∀ p ∈ [(0x10001, Width.b16), (0x1127B, Width.b32), (0x64FFD, Width.b16)],
      InBuffer p.1 p.2.bytes ∧ p.1 % p.2.bytes ≠ 0) ∧
    (State.reset.withScript [rdByte 0x100#32]).inputs = .host (.read 0x100#32 .b8) :: [] := by
  unfold InPage InBuffer
  decide +kernel

theorem witness_BufferAccessLittleEndian :
    (∀ p ∈ [(0x10000, Width.b32), (0x1127C, Width.b32), (0x20000, Width.b16), (0x21FFF, Width.b8), (0x64FFC, Width.b32)],
      InBuffer p.1 p.2.bytes ∧ p.1 % p.2.bytes = 0) ∧
    (State.reset.withScript [rdWord 0x10000#32]).inputs = .host (.read 0x10000#32 .b32) :: [] ∧
    (State.reset.withScript [wrWord 0x10000#32 1#32, rdWord 0x10000#32]).inputs =
      .host (.write 0x10000#32 .b32 1#32) :: .host (.read 0x10000#32 .b32) :: [] := by
  unfold InBuffer
  decide +kernel

theorem witness_ReadsChangeNothing :
    (sendingState.withScript [rdByte 0x10000#32]).inputs = .host (.read 0x10000#32 .b8) :: [] := rfl

theorem witness_RegisterPageReads :
    ∀ n ∈ [0x0, 0x4, 0x8, 0xC, 0x10, 0x14, 0x18, 0x1C, 0x20, 0x24, 0x28, 0x2C,
        0x30, 0x34, 0x38, 0x3C, 0x40, 0x44, 0x48, 0x4C, 0xFC],
      (midSend.withScript [rdWord (w32 n)]).inputs = .host (.read (w32 n) .b32) :: [] ∧
      (w32 n).toNat < 0x100 ∧ (w32 n).toNat % 4 = 0 := by
  decide

theorem witness_QueueLeftReads :
    (readyState.Inv ∧ readyState.sess ≠ .sending) ∧
    (sendingState.Inv ∧ sendingState.sess = .sending ∧ (sendingState.readReg 0x034).toNat = 237) :=
  ⟨⟨ready_inv, by decide⟩, sending_inv, rfl, by decide +kernel⟩

theorem witness_RegisterPageWrites :
    ∀ n ∈ [0x0, 0x4, 0xC, 0x10, 0x14, 0x18, 0x38, 0xFC],
      (midSend.withScript [wrWord (w32 n) 0xFFFFFFFF#32]).inputs =
        .host (.write (w32 n) .b32 0xFFFFFFFF#32) :: [] ∧
      (w32 n).toNat < 0x100 ∧ (w32 n).toNat % 4 = 0 := by decide

theorem witness_ChunkSizeClamp :
    (∀ n ∈ [0, 23], (w16 n).toNat ≤ 23) ∧ (∀ n ∈ [247, 0xFFFF], 247 ≤ (w16 n).toNat) ∧
    (∀ n ∈ [23, 247], 23 ≤ (w16 n).toNat ∧ (w16 n).toNat ≤ 247) := by decide

theorem witness_ChunksCoverFrame :
    chunkSize 23#16 = 20 ∧ ceilDiv 4736 20 = 237 ∧ 1 ≤ 1 ∧ 1 < 237 ∧ 1 ≤ 236 ∧ 236 < 237 := by decide

theorem witness_SendOutcomes :
    (∀ s ∈ [readyState, { readyState with sess := .failed, failCause := .sendNack }], s.charValid = true ∧
      (s.sess = .ready ∨ (s.sess = .failed ∧ s.failCause = .sendNack))) ∧
    chunkSize readyState.mtu = 20 ∧ ceilDiv 4736 20 = 237 ∧ (1 ≤ 1 ∧ 1 ≤ 237 + 1) ∧ (1 ≤ 238 ∧ 238 ≤ 237 + 1) := by decide

end Sys2Proof.Tests
end

section
/-! The Bayer matrix as a parameter of the block: no step changes it (00_scope.md R16, 40_quantizer.md R203), and its
thresholds (R204, R214). -/

namespace Sys2Proof.Machine

/-! ## What keeps the matrix -/

@[simp] theorem takeReset_bayer4 (s : State) : (takeReset s).bayer4 = s.bayer4 := rfl

@[simp] theorem State.writeReg_bayer4 (s : State) (off : Nat) (v : Word) : (s.writeReg off v).bayer4 = s.bayer4 := by
  rw [State.writeReg_frame]

/-- No command and no event writes the parameter (log 21): whichever branch an operation takes, it ends in named updates
that keep it. -/
theorem exec_bayer4 {i : Instr} {s t : State} (h : exec i s = .next t) : t.bayer4 = s.bayer4 := by
  cases i <;> simp only [exec] at h
  case nop | unpack | bmpEncode | scanStop => cases h; simp
  case bmpDecode =>
    unfold execBmpDecode at h
    split at h <;> cases h <;> simp
  case quantize | send | evtScanHit =>
    simp only [execQuantize, execSend, execEvtScanHit] at h
    split_ifs at h <;> cases h <;> simp
  case connect | disconnect | scanStart | evtLinkDown =>
    simp only [execConnect, execDisconnect, execScanStart, execEvtLinkDown] at h
    split_ifs at h <;> cases h <;> simp
  case evtConnected | evtMtuResult | evtDiscovery | evtWriteDone =>
    simp only [execEvtConnected, execEvtMtuResult, execEvtDiscovery, execEvtWriteDone] at h
    split_ifs at h <;> cases h <;> simp

/-- Settles O58: over the ways a step can end, each of which runs an operation, resets, or updates named fields. -/
theorem matrixNeverChanges : Obligations.MatrixNeverChanges := by
  intro s t h
  obtain ⟨-, rfl⟩ | ⟨x, rest, -, hx⟩ := step_cases h
  · rfl
  rcases hx with ⟨-, rfl⟩ | ⟨w, i, -, -, hexec⟩ | ⟨w, e, -, -, rfl⟩ | ⟨e, i, -, -, hexec⟩ | ⟨e, err, -, -, rfl⟩ |
    ⟨a, k, -, rfl⟩ | ⟨addr, w, v, -, rfl | rfl⟩ | ⟨addr, v, -, -, rfl⟩ | ⟨addr, w, v, r, -, -, -, rfl⟩
  · simp
  · rw [exec_bayer4 hexec, State.respond_bayer4]
  · simp
  · rw [exec_bayer4 hexec]
  all_goals simp

/-! ## Thresholds -/

/-- The default matrix's thresholds, tile by tile (40_quantizer.md R203, R214). -/
theorem threshold_bayerDefault (x y : Nat) : threshold (bayer bayerDefault x y) = tileThreshold x y := by
  have tile : ∀ row col : Fin 4, threshold bayerDefault[row][col] = tileThreshold col row := by decide
  have hmod : tileThreshold (x % 4) (y % 4) = tileThreshold x y := by simp [tileThreshold]
  rw [← hmod]
  exact tile ⟨y % 4, Nat.mod_lt y (by decide)⟩ ⟨x % 4, Nat.mod_lt x (by decide)⟩

/-- Settles O35: T = 68 + 8m over the rationals, the tiling and band of any matrix, and the default's tile. -/
theorem thresholdTile : Obligations.ThresholdTile := by
  refine ⟨fun m => ?_, fun matrix x y row col hy hx => ⟨bayer_eq matrix hy hx, threshold_bayer_bounds matrix x y⟩,
    threshold_bayerDefault⟩
  simp only [threshold, Nat.cast_add, Nat.cast_mul, Nat.cast_ofNat]
  ring

end Sys2Proof.Machine
end

section
/-! A command word is the word of the command it decodes to (30_encoding.md R121, R122). -/

namespace Sys2Proof

/-- With RSV = 0 a word is its low byte (30_encoding.md R121). -/
theorem eq_lowByte_of_reservedField {w : Word} (h : reservedField w = 0#24) : w = (lowByte w).setWidth 32 := by
  have hres := reservedField_toNat w
  rw [h] at hres
  apply BitVec.eq_of_toNat_eq
  have hlow := lowByte_toNat w
  simp at hres ⊢
  omega

/-- A command word the block knows is the encoding of its command. -/
theorem eq_encode_of_decodeCmd {w : Word} {i : Instr} (h : decodeCmd w = .ok i) : w = encode i := by
  unfold decodeCmd at h
  split at h
  · cases h
  next hres =>
  rw [eq_lowByte_of_reservedField (not_not.1 hres)]
  repeat' split at h
  all_goals cases h
  all_goals next hlow => rw [hlow]; rfl

end Sys2Proof
end


section
/-! Every step keeps the invariants (10_state.md R54, R44, R46, R48, 42_session.md R282): first the updates that
`State.Inv` does not look at, then buffers and registers, then the session's operations. -/

namespace Sys2Proof.Machine

/-! ## Updates of fields the invariants do not read -/

theorem State.Inv.raise {s : State} (hi : s.Inv) (b : IntBit) : (s.raise b).Inv := { hi with }

theorem State.Inv.result {s : State} (hi : s.Inv) (op : Byte) (c : ResultCode) : (s.result op c).Inv := { hi with }

theorem State.Inv.reject {s : State} (hi : s.Inv) (op : Byte) (c : ResultCode) : (s.reject op c).Inv := { hi with }

theorem State.Inv.ignore {s : State} (hi : s.Inv) : s.ignore.Inv := { hi with }

theorem State.Inv.draw {s : State} (hi : s.Inv) : s.draw.Inv := { hi with }

theorem State.Inv.respond {s : State} (hi : s.Inv) (r : BusResponse) : (s.respond r).Inv := { hi with }

theorem State.Inv.taken {s : State} (hi : s.Inv) (rest : List Input) : (s.taken rest).Inv := { hi with }

/-! ## Buffers and registers -/

/-- A write inside a mapped buffer (20_memory.md R81, log 16). -/
theorem State.Inv.setMem {s : State} (hi : s.Inv) {r : Region} (hr : r ≠ .page) {a n : Nat}
    (h : r.base ≤ a ∧ a + n ≤ r.base + r.size) (f : Nat → Byte) :
    ({ s with mem := s.mem.blit a n f } : State).Inv :=
  { hi with
    mem_wf := Memory.wf_blit hi.mem_wf a n f
    mem_mapped := Memory.mapped_blit hr h hi.mem_mapped }

theorem State.Inv.setFileLen {s : State} (hi : s.Inv) {v : Word} (hv : v.toNat ≤ Config.fileMax) :
    ({ s with fileLen := v } : State).Inv := { hi with fileLen_le := hv }

theorem State.Inv.setMtu {s : State} (hi : s.Inv) (v : Half) : ({ s with mtu := v } : State).Inv := { hi with }

/-- FILE_LEN never stores more than 8192 (10_state.md R48). -/
theorem fileLenLegal_le (v : Word) : (fileLenLegal v).toNat ≤ Config.fileMax := by
  unfold fileLenLegal
  split
  · assumption
  · decide

theorem State.writeReg_fileLen_le {s : State} (h : s.fileLen.toNat ≤ Config.fileMax) (off : Nat) (v : Word) :
    (s.writeReg off v).fileLen.toNat ≤ Config.fileMax := by
  unfold State.writeReg
  split
  case h_5 => exact fileLenLegal_le v
  all_goals exact h

/-- Of the registers a write can change, the invariants speak of FILE_LEN alone. -/
theorem State.Inv.writeReg {s : State} (hi : s.Inv) (off : Nat) (v : Word) : (s.writeReg off v).Inv := by
  have hlen := State.writeReg_fileLen_le hi.fileLen_le off v
  rw [State.writeReg_frame]
  exact { hi with fileLen_le := hlen }

/-- The reset input leaves an idle block with nothing sent and empty buffers (70_reset_and_hazards.md R450). -/
theorem takeReset_inv (s : State) : (takeReset s).Inv := by
  constructor <;> simp [takeReset, State.reset]

/-! ## The image commands -/

theorem execQuantize_inv {s t : State} (hi : s.Inv) (h : execQuantize s = .next t) : t.Inv := by
  unfold execQuantize at h
  split at h <;> cases h
  · exact hi.reject _ _
  · exact ((hi.setMem (r := .fb) (by decide) (by decide) _).draw).result _ _

theorem execUnpack_inv {s t : State} (hi : s.Inv) (h : execUnpack s = .next t) : t.Inv := by
  cases h
  exact ((hi.setMem (r := .canvas) (by decide) (by decide) _).draw).result _ _

theorem execBmpEncode_inv {s t : State} (hi : s.Inv) (h : execBmpEncode s = .next t) : t.Inv := by
  cases h
  exact (((hi.setMem (r := .file) (by decide) (by decide) _).setFileLen (by decide)).draw).result _ _

theorem execBmpDecode_inv {s t : State} (hi : s.Inv) (h : execBmpDecode s = .next t) : t.Inv := by
  unfold execBmpDecode at h
  split at h <;> cases h
  · exact hi.draw.result _ _
  · exact ((hi.setMem (r := .fb) (by decide) (by decide) _).draw).result _ _

/-! ## The session -/

/-- Outside SENDING no chunk is outstanding (R54 (a), R46). -/
theorem State.Inv.not_inFlight {s : State} (hi : s.Inv) (h : s.sess ≠ .sending) :
    s.inFlight = false ∧ s.inflightLen = 0#16 := by
  have hf : s.inFlight = false := Bool.eq_false_iff.2 fun hf => h (hi.inFlight_iff.1 hf)
  exact ⟨hf, hi.inflight_zero hf⟩

/-- No scan runs outside IDLE and DISCONNECTED (R54 (f)). -/
theorem State.Inv.not_scanActive {s : State} (hi : s.Inv) (h : s.sess ≠ .idle) (h' : s.sess ≠ .disconnected) :
    s.scanActive = false :=
  Bool.eq_false_iff.2 fun hs => (hi.scan_state hs).elim h h'

/-- A request that is no T_WRITE, or a T_WRITE of a legal length (42_session.md R282). -/
theorem State.Inv.emit {s : State} (hi : s.Inv) {r : Request}
    (hr : ∀ bs, r = .write bs → 1 ≤ bs.length ∧ bs.length ≤ Config.chunkMax) : (s.emit r).Inv :=
  { hi with
    writes_bounded := fun bs h => by
      rw [State.emit_requests, List.mem_append, List.mem_singleton] at h
      exact h.elim (hi.writes_bounded bs) fun h => hr bs h.symm }

theorem State.Inv.stopScan {s : State} (hi : s.Inv) : s.stopScan.Inv := by
  unfold State.stopScan
  split
  · exact { hi.emit (r := .scanStop) nofun with scan_state := nofun }
  · exact hi

/-- The link is given up: no chunk outstanding and no characteristic, in a state that needs neither. -/
theorem State.Inv.dropLink {s : State} (hi : s.Inv) {c : FailCause} {n : SessState}
    (hn : n = .connecting ∨ n = .disconnected) (hscan : s.scanActive = true → n = .disconnected) :
    ((s.dropLink c).enterState n).Inv := by
  have hsent := hi.sent_le
  apply hi.of_quiet <;> rcases hn with rfl | rfl <;> simp_all

theorem execConnect_inv {s t : State} (hi : s.Inv) (h : execConnect s = .next t) : t.Inv := by
  unfold execConnect at h
  split at h <;> cases h
  · exact hi.reject _ _
  have hs2 : (if s.sess = .failed then s.stopScan.emit .disconnect else s.stopScan).Inv := by
    split
    · exact hi.stopScan.emit nofun
    · exact hi.stopScan
  refine (((hs2.setMtu Config.defaultMtu).emit (r := .connect) nofun).dropLink (.inl rfl) ?_).result _ _
  split <;> simp

theorem execDisconnect_inv {s t : State} (hi : s.Inv) (h : execDisconnect s = .next t) : t.Inv := by
  cases h
  have hs1 : (if s.sess = .idle ∨ s.sess = .disconnected then s else s.emit .disconnect).Inv := by
    split
    · exact hi
    · exact hi.emit nofun
  refine State.Inv.result (State.Inv.dropLink ?_ (.inr rfl) fun _ => rfl) _ _
  split
  · exact hs1.raise _
  · exact hs1

theorem execEvtLinkDown_inv {s t : State} (hi : s.Inv) (h : execEvtLinkDown s = .next t) : t.Inv := by
  cases h
  refine State.Inv.raise (State.Inv.dropLink ?_ (.inr rfl) fun _ => rfl) _
  split
  · exact hi.raise _
  · exact hi

/-- The link is being brought up: CONNECTING, NEGOTIATING_MTU or DISCOVERING (10_state.md R36). -/
def State.Establishing (s : State) : Prop :=
  s.sess = .connecting ∨ s.sess = .negotiatingMtu ∨ s.sess = .discovering

/-- A link being brought up moves on: no chunk is outstanding and no scan runs. -/
theorem State.Inv.advance {s : State} (hi : s.Inv) (hw : s.Establishing) {cv : Bool} {c : FailCause} {n : SessState}
    (hn : n ≠ .sending)
    (hcv : cv = true ↔ n = .ready ∨ (n = .failed ∧ c = .sendNack)) :
    ({ s with charValid := cv, failCause := c }.enterState n).Inv := by
  obtain ⟨hidle, hsending, hdisc⟩ : s.sess ≠ .idle ∧ s.sess ≠ .sending ∧ s.sess ≠ .disconnected := by
    rcases hw with h | h | h <;> simp [h]
  obtain ⟨hfl, hil⟩ := hi.not_inFlight hsending
  have hscan := hi.not_scanActive hidle hdisc
  have hsent := hi.sent_le
  apply hi.of_quiet <;> simp_all

theorem State.Inv.not_charValid {s : State} (hi : s.Inv) (hw : s.Establishing) : s.charValid = false := by
  rw [Bool.eq_false_iff, ne_eq, hi.charValid_iff]
  rcases hw with h | h | h <;> simp [h]

theorem execEvtConnected_inv {s t : State} (hi : s.Inv) (h : execEvtConnected s = .next t) : t.Inv := by
  unfold execEvtConnected at h
  split_ifs at h with hs <;> cases h
  · exact hi.ignore
  have hw : s.Establishing := .inl (not_not.1 hs)
  exact (hi.advance hw (cv := s.charValid) (c := s.failCause) (by decide) (by simp [hi.not_charValid hw])).emit nofun

theorem execEvtMtuResult_inv {s t : State} {granted : Bool} {value : Half} (hi : s.Inv)
    (h : execEvtMtuResult granted value s = .next t) : t.Inv := by
  unfold execEvtMtuResult at h
  split at h <;> cases h
  · exact hi.ignore
  next hs =>
  have hw : s.Establishing := .inr (.inl (not_not.1 hs))
  exact ((hi.setMtu (if granted then value else Config.defaultMtu)).advance hw (cv := s.charValid) (c := s.failCause)
    (by decide) (by simp [hi.not_charValid hw])).emit (r := .discover) nofun

theorem execEvtDiscovery_inv {s t : State} {svc chr : Bool} (hi : s.Inv)
    (h : execEvtDiscovery svc chr s = .next t) : t.Inv := by
  unfold execEvtDiscovery at h
  split at h
  · cases h; exact hi.ignore
  next hs =>
  have hw : s.Establishing := .inr (.inr (not_not.1 hs))
  split at h <;> cases h
  · exact hi.advance hw (by decide) (by simp)
  · exact (hi.advance hw (by decide) (by cases svc <;> simp)).raise _

/-! ## SEND and the write results -/

/-- FRAME with nothing missing: R318's header and 4736 payload bytes, in canonical form. -/
structure Memory.WholeFrame (f : Memory) : Prop where
  wf : f.wf
  mapped : ∀ c ∈ f, c.1 < 4740
  written : ∀ o < 4740, f.peek o ≠ none
  header : ∀ o < 4, f.peek o = frameHeader[o]?

/-- SEND writes the whole of FRAME (42_session.md R318, R320). -/
theorem Memory.wholeFrame_blit {f : Memory} (hwf : f.wf) (hf : ∀ c ∈ f, c.1 < 4740) (m : Memory) (d : Nat) :
    (f.blit 0 4740 (m.frameByte d)).WholeFrame where
  wf := Memory.wf_blit hwf _ _ _
  mapped := fun c hc => (Memory.mem_blit hc).elim (hf c) fun h => by omega
  written := fun o ho => by simp [Memory.peek_frame ho]
  header := fun o ho => by
    rw [Memory.peek_frame (by omega)]
    match o, ho with
    | 0, _ | 1, _ | 2, _ | 3, _ => rfl

theorem State.Inv.wholeFrame {s : State} (hi : s.Inv) (hs : s.sess = .sending) : s.frame.WholeFrame where
  wf := hi.frame_wf
  mapped := hi.frame_mapped
  written := (hi.sending_frame hs).1
  header := (hi.sending_frame hs).2

/-- A state with a characteristic runs no scan (R54 (b), (f)). -/
theorem State.Inv.not_scanActive_of_charValid {s : State} (hi : s.Inv) (hcv : s.charValid = true) :
    s.scanActive = false := by
  rcases hi.charValid_iff.1 hcv with h | h | ⟨h, -⟩ <;> exact hi.not_scanActive (by simp [h]) (by simp [h])

/-- The chunk after `off` sent bytes goes out: the cursor is the sent total and the chunk (R54 (c)). -/
theorem State.Inv.issueChunk {s : State} (hi : s.Inv) (hcv : s.charValid = true) {f : Memory} (hf : f.WholeFrame)
    {sent expected : Word} (c : FailCause) {off len : Nat} (hsent : sent.toNat = off) (hexp : expected.toNat = 4740)
    (hlen : 1 ≤ len ∧ len ≤ 244) (hoff : 4 ≤ off + len ∧ off + len ≤ 4740) :
    (({ s with frame := f, sentTotal := sent, expectedTotal := expected, failCause := c }.issueChunk off len).enterState
      .sending).Inv := by
  have hscan := hi.not_scanActive_of_charValid hcv
  constructor
  case mem_mapped => simpa using hi.mem_mapped
  case frame_wf => simpa using hf.wf
  case frame_mapped => simpa using hf.mapped
  case sending_frame => simpa using And.intro hf.written hf.header
  case fileLen_le => simpa using hi.fileLen_le
  case mem_wf => simpa using hi.mem_wf
  case writes_bounded =>
    intro bs hbs
    rw [State.enterState_requests, State.issueChunk_requests, List.mem_append, List.mem_singleton] at hbs
    rcases hbs with hbs | hbs
    · exact hi.writes_bounded bs hbs
    · cases hbs
      simpa using hlen
  case sending_cursor | sending_range | txOffset_le | sent_le | inflight_range =>
    simp [hsent, hexp]
    omega
  all_goals simp [hcv, hscan, hexp]

theorem execSend_inv {s t : State} (hi : s.Inv) (h : execSend s = .next t) : t.Inv := by
  unfold execSend at h
  split_ifs at h with hs hr <;> cases h
  · exact hi.reject _ _
  · exact hi.reject _ _
  have hcv : s.charValid = true := (s.sendReady_iff.1 (Bool.not_eq_false _ ▸ hr)).1
  exact (hi.issueChunk hcv (Memory.wholeFrame_blit hi.frame_wf hi.frame_mapped s.mem s.draws) .noCause rfl rfl
    (by decide) (by decide)).result _ _

/-- A send ends, done or refused: nothing outstanding, the characteristic kept (42_session.md R321). -/
theorem State.Inv.endSend {s : State} (hi : s.Inv) (hs : s.sess = .sending) {sent : Word} (hsent : sent.toNat ≤ 4740)
    {c : FailCause} {n : SessState} (hn : n = .ready ∨ (n = .failed ∧ c = .sendNack)) :
    ({ s.retire with sentTotal := sent, failCause := c }.enterState n).Inv := by
  have hcv := hi.charValid_iff.2 (.inr (.inl hs))
  have hscan := hi.not_scanActive_of_charValid hcv
  have hexp := (hi.sending_range hs).2
  apply hi.of_quiet <;> rcases hn with rfl | ⟨rfl, rfl⟩ <;> simp_all

theorem State.enterState_self {s : State} {n : SessState} (h : s.sess = n) : s.enterState n = s := if_pos h

theorem execEvtWriteDone_inv {s t : State} {ok : Bool} (hi : s.Inv) (h : execEvtWriteDone ok s = .next t) : t.Inv := by
  unfold execEvtWriteDone at h
  split at h
  · cases h; exact hi.ignore
  next hn =>
  have hs : s.sess = .sending := by tauto
  have hcv := hi.charValid_iff.2 (.inr (.inl hs))
  obtain ⟨hoff, hexp⟩ := hi.sending_range hs
  have hle := hi.txOffset_le
  have hsent : (s.sentTotal + s.inflightLen.setWidth 32).toNat = s.txOffset.toNat := by
    have := hi.sending_cursor hs
    simp
    omega
  split_ifs at h with hok hmore <;> cases h
  · obtain ⟨h1, h2, h3⟩ := s.nextChunkLen_bounds hmore
    have ht := hi.issueChunk hcv (hi.wholeFrame hs) s.failCause hsent hexp ⟨h1, h2⟩ ⟨by omega, h3⟩
    rwa [State.enterState_self (by simpa using hs)] at ht
  · exact (hi.endSend hs (hsent ▸ hle) (.inl rfl)).raise _
  · exact (hi.endSend hs (hi.sent_le.trans hi.expected_le) (.inr ⟨rfl, rfl⟩)).raise _

theorem execScanStart_inv {s t : State} (hi : s.Inv) (h : execScanStart s = .next t) : t.Inv := by
  unfold execScanStart at h
  split_ifs at h with hs hrun <;> cases h
  · exact hi.reject _ _
  · exact hi.result _ _
  have hstate : s.sess = .idle ∨ s.sess = .disconnected := by tauto
  have hscan : ({ s with scanHits := 0#32, scanActive := true } : State).Inv :=
    { hi with scan_state := fun _ => hstate }
  exact (hscan.emit (r := .scanStart) nofun).result _ _

theorem execEvtScanHit_inv {s t : State} (hi : s.Inv) (h : execEvtScanHit s = .next t) : t.Inv := by
  unfold execEvtScanHit at h
  split at h <;> cases h
  · exact hi.ignore
  · exact { hi with }

/-! ## Every step -/

/-- Every command and every event keeps the invariants. -/
theorem exec_inv {i : Instr} {s t : State} (hi : s.Inv) (h : exec i s = .next t) : t.Inv := by
  cases i with
  | nop => cases h; exact hi.result _ _
  | quantize => exact execQuantize_inv hi h
  | unpack => exact execUnpack_inv hi h
  | bmpEncode => exact execBmpEncode_inv hi h
  | bmpDecode => exact execBmpDecode_inv hi h
  | connect => exact execConnect_inv hi h
  | disconnect => exact execDisconnect_inv hi h
  | send => exact execSend_inv hi h
  | scanStart => exact execScanStart_inv hi h
  | scanStop => cases h; exact hi.stopScan.result _ _
  | evtConnected => exact execEvtConnected_inv hi h
  | evtLinkDown => exact execEvtLinkDown_inv hi h
  | evtMtuResult granted value => exact execEvtMtuResult_inv hi h
  | evtDiscovery svc chr => exact execEvtDiscovery_inv hi h
  | evtWriteDone ok => exact execEvtWriteDone_inv hi h
  | evtScanHit => exact execEvtScanHit_inv hi h

/-- Settles O12: over the ways a step can end, each an operation, the reset input, a host write or an update the
invariants do not look at. -/
theorem stepKeepsInvariant : Obligations.StepKeepsInvariant := by
  intro s t hi h
  obtain ⟨-, rfl⟩ | ⟨x, rest, -, hx⟩ := step_cases h
  · exact hi
  have ht := hi.taken rest
  rcases hx with ⟨-, rfl⟩ | ⟨w, i, -, -, hexec⟩ | ⟨w, e, -, -, rfl⟩ | ⟨e, i, -, -, hexec⟩ | ⟨e, err, -, -, rfl⟩ |
    ⟨a, k, -, rfl⟩ | ⟨addr, w, v, -, rfl | rfl⟩ | ⟨addr, v, -, -, rfl⟩ | ⟨addr, w, v, r, -, hr, hc, rfl⟩
  · exact takeReset_inv _
  · exact exec_inv (ht.respond _) hexec
  · exact (ht.respond _).reject _ _
  · exact exec_inv ht hexec
  · exact ht.ignore
  · exact ht.respond _
  · exact ht.respond _
  · exact (ht.respond _).draw
  · exact (ht.writeReg _ _).respond _
  · exact (ht.setMem hr (regionOf_some (busCheck_ok hc).1) (leByte v.toNat)).respond _

end Sys2Proof.Machine
end

section
/-! What an operation reports: the bits of INT_STATUS with their causes (10_state.md R38, 60_exceptions.md R410), and RESULT
and CMD_ERR after every command and event word (10_state.md R34, 60_exceptions.md R401). -/

namespace Sys2Proof.Machine

/-! ## INT_STATUS -/

/-- Why operation `i`, taking `s` to `t`, sets bit `b` of INT_STATUS (10_state.md R38,
60_exceptions.md R401, R404, R410). -/
def FlagCause (i : Instr) (s t : State) (b : IntBit) : Prop :=
  (b = .stateChg ∧ s.sess ≠ t.sess) ∨
  (b = .sendDone ∧ i = .evtWriteDone true ∧ s.sess = .sending ∧ s.inFlight = true ∧
    4740 ≤ s.txOffset.toNat ∧ t.sess = .ready) ∨
  (b = .sendFail ∧ s.sess = .sending ∧
    ((i = .evtWriteDone false ∧ s.inFlight = true) ∨ i = .disconnect ∨ i = .evtLinkDown)) ∨
  (b = .cmdErr ∧ i.isEvent = false ∧ t.resultCode ≠ .ok ∧ t.resultCode ≠ .noMatch) ∨
  (b = .evtIgnored ∧ UnexpectedIn i s) ∨
  (b = .scanHit ∧ i = .evtScanHit ∧ s.scanActive = true) ∨
  (b = .notFound ∧ s.sess = .discovering ∧ t.sess = .failed ∧ ∃ svc chr, i = .evtDiscovery svc chr) ∨
  (b = .linkLost ∧ i = .evtLinkDown)

@[simp] theorem IntBit.getLsbD_mask (b b' : IntBit) : b.mask.getLsbD b'.pos = decide (b' = b) := by
  simpa using IntBit.getLsbD_or_mask 0#8 b b'

/-- Writing SESSION.STATE sets STATE_CHG when it changes the state, and no other bit (42_session.md R284). -/
theorem State.enterState_getLsbD (s : State) (n : SessState) (b : IntBit) :
    (s.enterState n).intStatus.getLsbD b.pos = true ↔
      s.intStatus.getLsbD b.pos = true ∨ (b = .stateChg ∧ s.sess ≠ n) := by
  by_cases h : s.sess = n <;> simp [State.enterState, h]

/-- An operation leaves set the bits that were set and those it has a cause for. -/
theorem exec_flag {i : Instr} {s t : State} (h : exec i s = .next t) (b : IntBit) :
    t.flag b = true ↔ s.flag b = true ∨ FlagCause i s t b := by
  cases i <;> simp only [exec] at h
  case nop | unpack | bmpEncode | scanStop =>
    cases h
    simp [State.flag, FlagCause, Instr.isEvent, UnexpectedIn]
  case bmpDecode =>
    unfold execBmpDecode at h
    split at h <;> cases h <;> simp [State.flag, FlagCause, Instr.isEvent, UnexpectedIn]
  case quantize | connect | send | scanStart =>
    simp only [execQuantize, execConnect, execSend, execScanStart] at h
    split_ifs at h <;> cases h <;>
      simp [State.flag, -State.enterState_intStatus, State.enterState_getLsbD, FlagCause, Instr.isEvent,
        UnexpectedIn, *]
  case disconnect | evtLinkDown =>
    simp only [execDisconnect, execEvtLinkDown] at h
    split_ifs at h <;> cases h <;>
      simp [State.flag, -State.enterState_intStatus, State.enterState_getLsbD, FlagCause, Instr.isEvent,
        UnexpectedIn, *] <;>
      tauto
  case evtConnected | evtMtuResult | evtDiscovery | evtScanHit =>
    simp only [execEvtConnected, execEvtMtuResult, execEvtDiscovery, execEvtScanHit] at h
    split_ifs at h <;> cases h <;>
      simp_all [State.flag, -State.enterState_intStatus, State.enterState_getLsbD, FlagCause, Instr.isEvent,
        UnexpectedIn] <;>
      tauto
  case evtWriteDone =>
    simp only [execEvtWriteDone] at h
    split at h
    case isTrue hu =>
      cases h
      rcases hu with hu | hu <;> simp [State.flag, FlagCause, Instr.isEvent, UnexpectedIn, hu]
    split_ifs at h <;> cases h <;>
      simp_all [State.flag, -State.enterState_intStatus, State.enterState_getLsbD, FlagCause, Instr.isEvent,
        UnexpectedIn] <;>
      tauto

/-- A bit that an operation sets anew has its cause. -/
theorem flagCause_of_new {i : Instr} {s t : State} (h : exec i s = .next t) {b : IntBit} (hs : s.flag b = false)
    (ht : t.flag b = true) : FlagCause i s t b := by
  simpa [hs] using (exec_flag h b).1 ht

theorem isEvent_of_unexpectedIn {i : Instr} {s : State} (h : UnexpectedIn i s) : i.isEvent = true := by
  cases i with
  | evtConnected | evtMtuResult | evtDiscovery | evtWriteDone | evtScanHit => rfl
  | _ => exact h.elim

/-- An event that its state does not expect only sets EVT_IGNORED (60_exceptions.md R404). -/
theorem exec_of_unexpectedIn {i : Instr} {s : State} (h : UnexpectedIn i s) : exec i s = .next s.ignore := by
  cases i with
  | evtConnected | evtMtuResult | evtDiscovery | evtWriteDone | evtScanHit => exact if_pos h
  | _ => exact h.elim

/-- Settles O16: each clause reads off why `exec_flag` lets the bit be set. -/
theorem eachStatusBitHasItsCause : Obligations.EachStatusBitHasItsCause := by
  intro i s t h
  refine ⟨fun b hb => (exec_flag h b).2 (.inl hb), fun hs ht => ?sendDone, fun hs ht => ?sendFail,
    fun hs ht => ?evtIgnored, fun hs ht => ?scanHit, fun hs ht => ?notFound, fun hs ht => ?linkLost⟩
  case evtIgnored =>
    have hu : UnexpectedIn i s := by simpa [FlagCause] using flagCause_of_new h hs ht
    refine ⟨isEvent_of_unexpectedIn hu, hu, ?_⟩
    rw [exec_of_unexpectedIn hu] at h
    cases h
    rfl
  case scanHit | notFound | linkLost => simpa [FlagCause] using flagCause_of_new h hs ht
  case sendDone =>
    have hcause : i = .evtWriteDone true ∧ s.sess = .sending ∧ s.inFlight = true ∧
        4740 ≤ s.txOffset.toNat ∧ t.sess = .ready := by
      simpa [FlagCause] using flagCause_of_new h hs ht
    obtain ⟨hi, hsess, -, hend⟩ := hcause
    exact ⟨hi, hsess, hend⟩
  case sendFail =>
    have hcause : s.sess = .sending ∧
        ((i = .evtWriteDone false ∧ s.inFlight = true) ∨ i = .disconnect ∨ i = .evtLinkDown) := by
      simpa [FlagCause] using flagCause_of_new h hs ht
    exact hcause.imp_right (Or.imp_left And.left)

/-! ## RESULT -/

/-- A command writes RESULT.OPCODE with its own opcode (10_state.md R34). -/
theorem exec_resultOpcode {i : Instr} {s t : State} (hc : i.isEvent = false) (h : exec i s = .next t) :
    t.resultOpcode = lowByte (encode i) := by
  cases i <;> simp only [exec] at h
  case nop | unpack | bmpEncode | disconnect | scanStop => cases h; rfl
  case bmpDecode =>
    unfold execBmpDecode at h
    split at h <;> cases h <;> rfl
  case quantize | connect | send | scanStart =>
    simp only [execQuantize, execConnect, execSend, execScanStart] at h
    split_ifs at h <;> cases h <;> rfl
  all_goals cases hc

/-- An event leaves RESULT as it is. -/
theorem exec_result_of_event {i : Instr} {s t : State} (he : i.isEvent = true) (h : exec i s = .next t) :
    t.resultCode = s.resultCode ∧ t.resultOpcode = s.resultOpcode := by
  cases i <;> simp only [exec] at h
  case evtConnected | evtMtuResult | evtDiscovery | evtWriteDone =>
    simp only [execEvtConnected, execEvtMtuResult, execEvtDiscovery, execEvtWriteDone] at h
    split_ifs at h <;> cases h <;> simp
  case evtLinkDown | evtScanHit =>
    simp only [execEvtLinkDown, execEvtScanHit] at h
    split_ifs at h <;> cases h <;> simp
  all_goals cases he

theorem exec_cmdErr {i : Instr} {s t : State} (h : exec i s = .next t) : t.flag .cmdErr = true ↔
    s.flag .cmdErr = true ∨ (i.isEvent = false ∧ t.resultCode ≠ .ok ∧ t.resultCode ≠ .noMatch) := by
  simpa [FlagCause] using exec_flag h .cmdErr

/-- Settles O15: a word that decodes runs a command or an event, any other is BAD_CMD or ignored. -/
theorem resultAndCmdErr : Obligations.ResultAndCmdErr := by
  refine ⟨fun w s t h => ?_, fun e s t h => ?_⟩
  · unfold runCommand at h
    split at h
    case h_1 i hd =>
      have hc := decodeCmd_isEvent hd
      rw [← lowByte_eq, eq_encode_of_decodeCmd hd]
      exact ⟨exec_resultOpcode hc h, Bool.eq_iff_iff.2 (by simp [exec_cmdErr h, hc])⟩
    case h_2 =>
      cases h
      simp [lowByte_eq]
  · unfold takeEvent at h
    split at h
    case h_1 i hd =>
      have he := decodeEvt_isEvent hd
      obtain ⟨hcode, hop⟩ := exec_result_of_event he h
      exact ⟨hcode, hop, Bool.eq_iff_iff.2 (by simp [exec_cmdErr h, he])⟩
    case h_2 =>
      cases h
      simp

end Sys2Proof.Machine
end

section
/-! MTU's only causes, the register page's reads, and the operation a step runs (10_state.md R33 to R54). -/

namespace Sys2Proof.Machine

/-! ## MTU -/

@[simp] theorem State.writeReg_mtu (s : State) (off : Nat) (v : Word) : (s.writeReg off v).mtu = s.mtu := by
  rw [State.writeReg_frame]

/-- MTU after an operation: CONNECT and an expected MTU result write it, nothing else does (10_state.md R54 (e)). -/
theorem exec_mtu {i : Instr} {s t : State} (h : exec i s = .next t) :
    t.mtu = s.mtu ∨ (i = .connect ∧ t.mtu = 23#16) ∨
      ∃ granted value, i = .evtMtuResult granted value ∧ s.sess = .negotiatingMtu ∧
        t.mtu = if granted = true then value else 23#16 := by
  cases i <;> simp only [exec] at h
  case connect =>
    unfold execConnect at h
    split at h <;> cases h <;> simp
  case evtMtuResult =>
    unfold execEvtMtuResult at h
    split at h <;> cases h <;> simp_all
  case nop | unpack | bmpEncode | scanStop => cases h; simp
  case bmpDecode =>
    unfold execBmpDecode at h
    split at h <;> cases h <;> simp
  case quantize | send | disconnect | scanStart | evtLinkDown =>
    simp only [execQuantize, execSend, execDisconnect, execScanStart, execEvtLinkDown] at h
    split_ifs at h <;> cases h <;> simp
  case evtConnected | evtDiscovery | evtWriteDone | evtScanHit =>
    simp only [execEvtConnected, execEvtDiscovery, execEvtWriteDone, execEvtScanHit] at h
    split_ifs at h <;> cases h <;> simp

/-- Settles O17: over the ways a step can end, of which only CONNECT, an MTU result and reset can leave another MTU. -/
theorem mtuChangesOnlyInConnectOrMtuResult : Obligations.MtuChangesOnlyInConnectOrMtuResult := by
  intro s t h hne
  obtain ⟨-, rfl⟩ | ⟨x, rest, hin, hx⟩ := step_cases h
  · exact absurd rfl hne
  refine ⟨rest, ?_⟩
  rcases hx with ⟨rfl, rfl⟩ | ⟨w, i, rfl, hd, hexec⟩ | ⟨w, e, -, -, rfl⟩ | ⟨e, i, rfl, hd, hexec⟩ | ⟨e, err, -, -, rfl⟩ |
    ⟨a, k, -, rfl⟩ | ⟨addr, w, v, -, rfl | rfl⟩ | ⟨addr, v, -, -, rfl⟩ | ⟨addr, w, v, r, -, -, -, rfl⟩
  · exact .inl ⟨hin, rfl⟩
  · obtain hsame | ⟨rfl, hmtu⟩ | ⟨granted, value, rfl, -⟩ := exec_mtu hexec
    · exact absurd hsame hne
    · cases eq_encode_of_decodeCmd hd
      exact .inr (.inl ⟨hin, hmtu⟩)
    · cases decodeCmd_isEvent hd
  · simp at hne
  · obtain hsame | ⟨rfl, -⟩ | ⟨granted, value, rfl, hs, hmtu⟩ := exec_mtu hexec
    · exact absurd hsame hne
    · cases decodeEvt_isEvent hd
    · exact .inr (.inr ⟨e, granted, value, hin, hd, hs, hmtu⟩)
  all_goals simp at hne

/-! ## The register page -/

/-- An aligned word of the register page passes the bus checks (20_memory.md R81, R89, R90). -/
theorem busCheck_page {off : Word} (h : off.toNat < 0x100) (hal : off.toNat % 4 = 0) : busCheck off .b32 = .ok .page := by
  have hr : regionOf off.toNat 4 = some .page := regionOf_eq (by decide) (by simp [Region.base, Region.size]; omega)
  simp [busCheck, hr, hal]

/-- A register's fields so far, of value `a`, and above them one of value `b` from bit `k` on. -/
theorem toNat_or_shiftLeft {lo field : Word} {k a b : Nat} (hlo : lo.toNat = a) (hfield : field.toNat = b)
    (ha : a < 2 ^ k) (hb : b * 2 ^ k < 2 ^ 32) : (lo ||| field <<< k).toNat = a + 2 ^ k * b := by
  subst hlo hfield
  calc (lo ||| field <<< k).toNat
      = field.toNat <<< k ||| lo.toNat := by
        rw [BitVec.toNat_or, BitVec.toNat_shiftLeft, Nat.shiftLeft_eq, Nat.mod_eq_of_lt hb, Nat.or_comm]
    _ = field.toNat <<< k + lo.toNat := (Nat.shiftLeft_add_eq_or_of_lt ha _).symm
    _ = lo.toNat + 2 ^ k * field.toNat := by rw [Nat.shiftLeft_eq, Nat.add_comm, Nat.mul_comm]

theorem toNat_setWidth_word {n : Nat} (hn : n ≤ 32) (v : BitVec n) : (v.setWidth 32).toNat = v.toNat :=
  BitVec.toNat_setWidth_of_le hn

theorem toNat_flag (b : Bool) : ((BitVec.ofBool b).setWidth 32).toNat = b.toNat := by cases b <;> rfl

theorem State.resultReg_toNat (s : State) :
    s.resultReg.toNat = s.resultCode.code.toNat + 2 ^ 8 * s.resultOpcode.toNat := by
  have hc := s.resultCode.code.isLt
  have ho := s.resultOpcode.isLt
  exact toNat_or_shiftLeft (toNat_setWidth_word (by decide) _) (toNat_setWidth_word (by decide) _)
    (by omega) (by omega)

theorem State.sessionReg_toNat (s : State) :
    s.sessionReg.toNat = s.sess.code.toNat + 2 ^ 4 * s.failCause.code.toNat + 2 ^ 8 * s.charValid.toNat +
      2 ^ 9 * s.inFlight.toNat + 2 ^ 10 * s.scanActive.toNat := by
  have hs := s.sess.code.isLt
  have hf := s.failCause.code.isLt
  have hcv := s.charValid.toNat_lt
  have hfl := s.inFlight.toNat_lt
  have hsc := s.scanActive.toNat_lt
  have hcodes := toNat_or_shiftLeft (k := 4) (toNat_setWidth_word (by decide) s.sess.code)
    (toNat_setWidth_word (by decide) s.failCause.code) (by omega) (by omega)
  have hvalid := toNat_or_shiftLeft (k := 8) hcodes (toNat_flag s.charValid) (by omega) (by omega)
  have hflight := toNat_or_shiftLeft (k := 9) hvalid (toNat_flag s.inFlight) (by omega) (by omega)
  exact toNat_or_shiftLeft (k := 10) hflight (toNat_flag s.scanActive) (by omega) (by omega)

/-- QUEUE_LEFT never exceeds the frame's bytes. -/
theorem State.queueLeft_le (s : State) : s.queueLeft ≤ 4740 := by
  have hc := chunkSize_ge s.mtu
  unfold State.queueLeft ceilDiv
  split
  · exact Nat.div_le_of_le_mul (by simp; omega)
  · omega

theorem State.readReg_queueLeft (s : State) : (s.readReg 0x034).toNat = s.queueLeft := by
  have := s.queueLeft_le
  simp [State.readReg]
  omega

/-- Settles O51: the least number of chunks, between the bytes left and one chunk more. -/
theorem queueLeftReads : Obligations.QueueLeftReads := by
  intro s _
  refine ⟨fun hs => ?_, fun hs q hq => ?_⟩
  · simp [State.readReg, State.queueLeft, hs]
  · have hc : 0 < chunkSize s.mtu := by have := chunkSize_ge s.mtu; omega
    rw [State.readReg_queueLeft, State.queueLeft, if_pos hs] at hq
    subst hq
    exact ⟨ceilDiv_mul_ge hc, ceilDiv_mul_lt hc⟩

/-- Offsets from 0x04C on read 0 (10_state.md R50). -/
theorem State.readReg_reserved (s : State) {off : Nat} (h : 0x04C ≤ off) : s.readReg off = 0#32 := by
  unfold State.readReg
  split
  case h_20 => rfl
  all_goals omega

/-- Settles O50: the step answers with `State.readReg`, whose value is read off register by register. -/
theorem registerPageReads : Obligations.RegisterPageReads := by
  intro s off rest hin hpage hal
  refine ⟨s.readReg off.toNat, ?_, ?_⟩
  · rw [step_read hin (busCheck_page hpage hal)]
    simp [busRead, State.respond]
  refine ⟨?_, ?_, ?_, ?_, ?_, ?_, ?_, ?_, ?_, ?_, ?_, ?_, ?_, ?_, ?_, ?_, ?_, ?_, ?_, s.readReg_reserved⟩ <;> rintro rfl
  · rfl
  · exact s.resultReg_toNat
  · exact s.sessionReg_toNat
  case refine_9 =>
    have := chunkSize_le s.mtu
    exact Nat.mod_eq_of_lt (by omega)
  case refine_14 => exact s.readReg_queueLeft
  case refine_4 | refine_5 | refine_6 | refine_7 | refine_8 | refine_13 => exact toNat_setWidth_word (by decide) _
  all_goals rfl

/-! ## The operation a step runs -/

/-- Settles O5: a CMD write and an event word each run what their port's decoder gives. -/
theorem stepRunsDecoded : Obligations.StepRunsDecoded := by
  intro s w i rest
  refine ⟨fun hin hd => ?_, fun hin hd => ?_⟩
  · rw [step_command hin, runCommand, hd]
    rfl
  · rw [step_event hin, takeEvent, hd]

end Sys2Proof.Machine
end

section
/-! FRAME's only writers (20_memory.md R86, R105). -/

namespace Sys2Proof.Machine

@[simp] theorem State.writeReg_frameBuffer (s : State) (off : Nat) (v : Word) : (s.writeReg off v).frame = s.frame := by
  rw [State.writeReg_frame]

/-- FRAME after an operation: SEND writes it, nothing else does (20_memory.md R86). -/
theorem exec_frame {i : Instr} {s t : State} (h : exec i s = .next t) : i = .send ∨ t.frame = s.frame := by
  cases i <;> simp only [exec] at h
  case send => exact .inl rfl
  case nop | unpack | bmpEncode | scanStop => cases h; simp
  case bmpDecode =>
    unfold execBmpDecode at h
    split at h <;> cases h <;> simp
  case quantize | connect | disconnect | scanStart | evtLinkDown =>
    simp only [execQuantize, execConnect, execDisconnect, execScanStart, execEvtLinkDown] at h
    split_ifs at h <;> cases h <;> simp
  case evtConnected | evtMtuResult | evtDiscovery | evtWriteDone | evtScanHit =>
    simp only [execEvtConnected, execEvtMtuResult, execEvtDiscovery, execEvtWriteDone, execEvtScanHit] at h
    split_ifs at h <;> cases h <;> simp

/-- Settles O18: over the ways a step can end, of which only SEND and reset can leave another FRAME; a SEND comes from the
command port, since no event word decodes to it. -/
theorem frameWrittenOnlyBySend : Obligations.FrameWrittenOnlyBySend := by
  intro s t h hne
  obtain ⟨-, rfl⟩ | ⟨x, rest, hin, hx⟩ := step_cases h
  · exact absurd rfl hne
  refine ⟨rest, ?_⟩
  rcases hx with ⟨rfl, -⟩ | ⟨w, i, rfl, hd, hexec⟩ | ⟨w, e, -, -, rfl⟩ | ⟨e, i, -, hd, hexec⟩ | ⟨e, err, -, -, rfl⟩ |
    ⟨a, k, -, rfl⟩ | ⟨addr, w, v, -, rfl | rfl⟩ | ⟨addr, v, -, -, rfl⟩ | ⟨addr, w, v, r, -, -, -, rfl⟩
  · exact .inl hin
  · obtain rfl | hsame := exec_frame hexec
    · cases eq_encode_of_decodeCmd hd
      exact .inr hin
    · exact absurd hsame hne
  · simp at hne
  · obtain rfl | hsame := exec_frame hexec
    · cases decodeEvt_isEvent hd
    · exact absurd hsame hne
  all_goals simp at hne

end Sys2Proof.Machine
end

section
/-! Host accesses of the buffers and writes of the register page (20_memory.md R88 to R96). -/

namespace Sys2Proof.Machine

/-! ## Little-endian sums -/

/-- A byte sequence's value is the sum of its bytes, byte `i` weighing `256 ^ i` (20_memory.md R88). -/
theorem leNat_eq_sum (f : Nat → Byte) (n : Nat) :
    leNat ((List.range n).map f) = ((List.range n).map fun i => (f i).toNat * 256 ^ i).sum := by
  induction n generalizing f with
  | zero => rfl
  | succ n ih =>
    have hshift : 256 * ((List.range n).map fun i => (f (i + 1)).toNat * 256 ^ i).sum =
        ((List.range n).map fun i => (f (i + 1)).toNat * 256 ^ (i + 1)).sum := by
      rw [← List.sum_map_mul_left]
      simp only [Nat.pow_succ, Nat.mul_comm, Nat.mul_left_comm]
    rw [List.range_succ_eq_map, List.map_cons, List.map_map, List.map_cons, List.map_map, List.sum_cons, leNat,
      ih (f ∘ Nat.succ)]
    simpa [Function.comp_def] using hshift

/-- What an access reads fits in the bus's 32 bits. -/
theorem Memory.readLe_lt (m : Memory) (d a : Nat) (w : Width) : m.readLe d a w.bytes < 2 ^ 32 := by
  have hlt := leNat_lt (m.bytesAt d a w.bytes)
  have hwidth : 256 ^ w.bytes ≤ 2 ^ 32 := by cases w <;> decide
  rw [Memory.length_bytesAt] at hlt
  exact hlt.trans_le hwidth

/-! ## The bus -/

/-- An aligned access within a buffer passes the bus checks (20_memory.md R81, R90). -/
theorem busCheck_buffer {addr : Word} {w : Width} (h : InBuffer addr.toNat w.bytes) (hal : addr.toNat % w.bytes = 0) :
    ∃ r, r ≠ .page ∧ busCheck addr w = .ok r := by
  have hregion : ∃ r : Region, r ≠ .page ∧ r.base ≤ addr.toNat ∧ addr.toNat + w.bytes ≤ r.base + r.size := by
    obtain hfb | hfile | hcanvas := h
    · exact ⟨.fb, by decide, hfb⟩
    · exact ⟨.file, by decide, hfile⟩
    · exact ⟨.canvas, by decide, hcanvas⟩
  obtain ⟨r, hr, hin⟩ := hregion
  exact ⟨r, hr, by simp [busCheck, regionOf_eq w.bytes_pos hin, hr, hal]⟩

/-- A read that fails its checks answers the error and does nothing else (60_exceptions.md R402). -/
theorem step_read_error {s : State} {addr : Word} {w : Width} {rest : List Input} {k : BusErrorKind}
    (h : s.inputs = .host (.read addr w) :: rest) (hc : busCheck addr w = .error k) :
    step s = .next ((s.taken rest).respond (.error k)) := by simp [step, takeNext, h, takeInput, busAccess, hc]

/-- A read answers, and at most moves the draw counter on (20_memory.md R93). -/
theorem busRead_frame (r : Region) (a : Nat) (w : Width) (s : State) :
    ∃ v, busRead r a w s = { s.respond (.data v) with draws := (busRead r a w s).draws } := by
  unfold busRead
  split <;> exact ⟨_, rfl⟩

/-- Settles O49: a read either errors, and then only answers, or passes its checks and answers with data. -/
theorem readsChangeNothing : Obligations.ReadsChangeNothing := by
  intro s addr w rest hin
  cases hc : busCheck addr w with
  | error k => exact ⟨_, .error k, step_read_error hin hc, rfl⟩
  | ok r =>
    obtain ⟨v, hv⟩ := busRead_frame r addr.toNat w (s.taken rest)
    exact ⟨_, .data v, step_read hin hc, hv⟩

/-- A buffer read answers with the bytes at its address and moves the draw counter on (20_memory.md R88, R93, log 3). -/
theorem step_readBuffer {s : State} {addr : Word} {w : Width} {rest : List Input}
    (h : s.inputs = .host (.read addr w) :: rest) (hbuf : InBuffer addr.toNat w.bytes)
    (hal : addr.toNat % w.bytes = 0) :
    step s = .next { s with
      inputs := rest, draws := s.draws + 1
      responses := s.responses ++ [.data (BitVec.ofNat 32 (s.mem.readLe s.draws addr.toNat w.bytes))] } := by
  obtain ⟨r, hr, hc⟩ := busCheck_buffer hbuf hal
  rw [step_read h hc, busRead, if_neg hr]
  rfl

/-- A buffer write stores its bytes at its address; higher bits of the data are ignored (20_memory.md R88, log 15). -/
theorem step_writeBuffer {s : State} {addr v : Word} {w : Width} {rest : List Input}
    (h : s.inputs = .host (.write addr w v) :: rest) (hbuf : InBuffer addr.toNat w.bytes)
    (hal : addr.toNat % w.bytes = 0) :
    step s = .next { s with
      inputs := rest, mem := s.mem.writeLe addr.toNat w.bytes v.toNat, responses := s.responses ++ [.done] } := by
  obtain ⟨r, hr, hc⟩ := busCheck_buffer hbuf hal
  rw [step_write h hc, busWrite, if_neg hr]
  rfl

/-- Settles O48: a read's answer is the sum of its bytes, a write's bytes are those of `Memory.writeLe`, and reading back
what it wrote gives the data at the access's width. -/
theorem bufferAccessLittleEndian : Obligations.BufferAccessLittleEndian := by
  intro s addr w rest hbuf hal
  refine ⟨fun hin => ⟨_, ?_, step_readBuffer hin hbuf hal⟩, fun v hin => ?_⟩
  · calc (BitVec.ofNat 32 (s.mem.readLe s.draws addr.toNat w.bytes)).toNat
        = s.mem.readLe s.draws addr.toNat w.bytes := Nat.mod_eq_of_lt (s.mem.readLe_lt s.draws addr.toNat w)
      _ = _ := leNat_eq_sum _ _
  · refine ⟨_, _, step_writeBuffer hin hbuf hal, step_readBuffer rfl hbuf hal, rfl,
      fun i hi => Memory.peek_blit_add hi, fun a ha => Memory.peek_blit_out ha, ?_⟩
    simp only [Memory.readLe_writeLe]

/-! ## Register writes -/

/-- FILE_LEN stores the lesser of the data and 8192 (10_state.md R48). -/
theorem fileLenLegal_eq_min (v : Word) : fileLenLegal v = BitVec.ofNat 32 (min v.toNat 8192) := by
  unfold fileLenLegal
  split
  · next h => rw [Nat.min_eq_left h, BitVec.ofNat_toNat, BitVec.setWidth_eq]
  · next h => rw [Nat.min_eq_right (Nat.le_of_not_le h)]

/-- A register write, field by field (20_memory.md R92). -/
theorem State.writeReg_eq (s : State) (off : Nat) (v : Word) :
    s.writeReg off v = { s with
      intStatus := if off = 0x00C then s.intStatus &&& ~~~(v.setWidth 8) else s.intStatus
      intEnable := if off = 0x010 then v.setWidth 8 else s.intEnable
      qgamma := if off = 0x014 then v.setWidth 16 else s.qgamma
      prefMtu := if off = 0x018 then v.setWidth 16 else s.prefMtu
      fileLen := if off = 0x038 then fileLenLegal v else s.fileLen } := by
  unfold State.writeReg
  split
  case h_6 hstatus henable hgamma hmtu hlen =>
    rw [if_neg hstatus, if_neg henable, if_neg hgamma, if_neg hmtu, if_neg hlen]
  all_goals rfl

/-- Settles O52: CMD runs its word; every other offset is `State.writeReg`, read off field by field. -/
theorem registerPageWrites : Obligations.RegisterPageWrites := by
  intro s off v rest hin hpage hal
  refine ⟨?_, fun hoff => ?_⟩
  · rintro rfl
    exact step_command hin
  · have hne : off.toNat ≠ 0 := fun h => hoff (BitVec.eq_of_toNat_eq h)
    have hcmp (n : Nat) (hn : n < 2 ^ 32) : off = BitVec.ofNat 32 n ↔ off.toNat = n := by
      rw [← BitVec.toNat_inj, BitVec.toNat_ofNat, Nat.mod_eq_of_lt hn]
    rw [step_write hin (busCheck_page hpage hal), busWrite, if_pos rfl, if_neg hne, State.writeReg_eq,
      fileLenLegal_eq_min]
    simp [State.respond, hcmp]

end Sys2Proof.Machine
end

section
/-! The encodings of 30_encoding.md: each decoder undoes the encoder at its own port and refuses the reserved words (R121
to R129), and a table word put in front of the step is run. -/

namespace Sys2Proof

/-! ## The fields of an event word -/

/-- The mask of one bit leaves that bit as a flag. -/
theorem and_bit_eq_flagBit (e : Word) (i : Nat) : e &&& 1#32 <<< i = flagBit (e.getLsbD i) i := by
  rw [← BitVec.twoPow_eq, BitVec.and_twoPow, flagBit]
  cases e.getLsbD i with
  | false => simp
  | true => rfl

theorem valueField_toNat (e : Word) : (valueField e).toNat = e.toNat / 65536 := by
  have := e.isLt
  simp [valueField, BitVec.extractLsb'_toNat, Nat.shiftRight_eq_div_pow]
  omega

/-- The mask of bits [31:16] leaves VALUE in its place (30_encoding.md R125). -/
theorem and_high_eq_valueField (e : Word) : e &&& 0xFFFF0000#32 = (valueField e).setWidth 32 <<< 16 := by
  have hshift : (valueField e).setWidth 32 = e >>> 16 := by
    apply BitVec.eq_of_toNat_eq
    rw [BitVec.toNat_setWidth_of_le (by decide), valueField_toNat, BitVec.toNat_ushiftRight,
      Nat.shiftRight_eq_div_pow]
  rw [hshift, BitVec.shiftLeft_ushiftRight]
  rfl

theorem and_fullMask (e : Word) : e &&& 0xFFFFFFFF#32 = e := BitVec.and_allOnes

/-- A word is what it holds under a mask and under the mask's complement. -/
theorem eq_or_of_and_eq {e mask v : Word} (h : e &&& mask = v) : e = v ||| e &&& ~~~mask := by
  rw [← h, ← BitVec.and_or_distrib_left, BitVec.or_not_self, BitVec.and_allOnes]

/-! ## Decoding, then encoding -/

theorem eq_encode_of_mtuRow {e : Word} (h : e &&& 0x0000FEFF#32 = 0x00000082#32) :
    e = encode (.evtMtuResult (e.getLsbD 8) (valueField e)) :=
  calc e = 0x00000082#32 ||| e &&& (1#32 <<< 8 ||| 0xFFFF0000#32) := eq_or_of_and_eq h
    _ = 0x00000082#32 ||| (flagBit (e.getLsbD 8) 8 ||| (valueField e).setWidth 32 <<< 16) := by
      rw [BitVec.and_or_distrib_left, and_bit_eq_flagBit, and_high_eq_valueField]
    _ = _ := (BitVec.or_assoc ..).symm

theorem eq_encode_of_discoveryRow {e : Word} (h : e &&& 0xFFFFFCFF#32 = 0x00000083#32) :
    e = encode (.evtDiscovery (e.getLsbD 8) (e.getLsbD 9)) :=
  calc e = 0x00000083#32 ||| e &&& (1#32 <<< 8 ||| 1#32 <<< 9) := eq_or_of_and_eq h
    _ = 0x00000083#32 ||| (flagBit (e.getLsbD 8) 8 ||| flagBit (e.getLsbD 9) 9) := by
      rw [BitVec.and_or_distrib_left, and_bit_eq_flagBit, and_bit_eq_flagBit]
    _ = _ := (BitVec.or_assoc ..).symm

theorem eq_encode_of_writeDoneRow {e : Word} (h : e &&& 0xFFFFFEFF#32 = 0x00000084#32) :
    e = encode (.evtWriteDone (e.getLsbD 8)) :=
  calc e = 0x00000084#32 ||| e &&& 1#32 <<< 8 := eq_or_of_and_eq h
    _ = _ := by rw [and_bit_eq_flagBit, encode]

/-- An event word the block knows is the encoding of its event (30_encoding.md R126, R129). -/
theorem eq_encode_of_decodeEvt {e : Word} {i : Instr} (h : decodeEvt e = .ok i) : e = encode i := by
  unfold decodeEvt at h
  split_ifs at h with hconn hdown hmtu hdisc hdone hhit
  all_goals cases h
  · exact (and_fullMask e).symm.trans hconn
  · exact (and_fullMask e).symm.trans hdown
  · exact eq_encode_of_mtuRow hmtu
  · exact eq_encode_of_discoveryRow hdisc
  · exact eq_encode_of_writeDoneRow hdone
  · exact (and_fullMask e).symm.trans hhit

/-! ## Encoding, then decoding -/

theorem decodeCmd_encode {i : Instr} (hi : i.isEvent = false) : decodeCmd (encode i) = .ok i := by
  cases i with
  | evtConnected | evtLinkDown | evtMtuResult | evtDiscovery | evtWriteDone | evtScanHit => cases hi
  | _ => rfl

/-- A word of the MTU result's row is of no row above it. -/
theorem decodeEvt_of_mtuRow {e : Word} (h : e &&& 0x0000FEFF#32 = 0x00000082#32) :
    decodeEvt e = .ok (.evtMtuResult (e.getLsbD 8) (valueField e)) := by
  have above (v : Word) (hv : v &&& 0x0000FEFF#32 ≠ 0x00000082#32) : e &&& 0xFFFFFFFF#32 ≠ v := by
    rw [and_fullMask]
    rintro rfl
    exact hv h
  rw [decodeEvt, if_neg (above _ (by decide)), if_neg (above _ (by decide)), if_pos h]

/-- The word of an MTU result as a number: its code, GRANTED from bit 8 and VALUE from bit 16. -/
theorem encode_evtMtuResult_toNat (granted : Bool) (value : Half) :
    (encode (.evtMtuResult granted value)).toNat = 0x82 + 2 ^ 8 * granted.toNat + 2 ^ 16 * value.toNat := by
  have hg := granted.toNat_lt
  have hv := value.isLt
  have hflag := Machine.toNat_or_shiftLeft (lo := 0x82#32) (k := 8) rfl (Machine.toNat_flag granted) (by decide)
    (by omega)
  exact Machine.toNat_or_shiftLeft hflag (Machine.toNat_setWidth_word (by decide) value) (by omega) (by omega)

theorem getLsbD_encode_evtMtuResult (granted : Bool) (value : Half) :
    (encode (.evtMtuResult granted value)).getLsbD 8 = granted := by
  simp [encode, flagBit]

theorem valueField_encode_evtMtuResult (granted : Bool) (value : Half) :
    valueField (encode (.evtMtuResult granted value)) = value := by
  have hg := granted.toNat_lt
  apply BitVec.eq_of_toNat_eq
  rw [valueField_toNat, encode_evtMtuResult_toNat]
  omega

theorem decodeEvt_encode {i : Instr} (hi : i.isEvent = true) : decodeEvt (encode i) = .ok i := by
  cases i with
  | evtMtuResult granted value =>
    rw [decodeEvt_of_mtuRow (Laws.TableRow.evtMtuResult granted value), getLsbD_encode_evtMtuResult,
      valueField_encode_evtMtuResult]
  | evtDiscovery svc chr => cases svc <;> cases chr <;> rfl
  | evtWriteDone ok => cases ok <;> rfl
  | evtConnected | evtLinkDown | evtScanHit => rfl
  | _ => cases hi

/-- Bit 7 of an operation's word says which port it is for (log 8). -/
@[simp] theorem isEventWord_encode (i : Instr) : isEventWord (encode i) = i.isEvent := by
  cases hi : i.isEvent with
  | false => exact isEventWord_of_decodeCmd (decodeCmd_encode hi)
  | true => exact isEventWord_of_decodeEvt (decodeEvt_encode hi)

@[simp] theorem decodeWord_encode (i : Instr) : decodeWord (encode i) = .ok i := by
  rw [decodeWord, isEventWord_encode]
  cases hi : i.isEvent with
  | false => exact decodeCmd_encode hi
  | true => exact decodeEvt_encode hi

/-- No word is known at both ports: bit 7 tells them apart (30_encoding.md R122, R126). -/
theorem decodeEvt_ne_ok_of_decodeCmd {w : Word} {i : Instr} (h : decodeCmd w = .ok i) (j : Instr) :
    decodeEvt w ≠ .ok j := fun hj =>
  Bool.false_ne_true ((isEventWord_of_decodeCmd h).symm.trans (isEventWord_of_decodeEvt hj))

/-- Settles O2: each port's decoder undoes the encoder and accepts nothing else; bit 7 keeps the ports apart. -/
theorem decodeEncodeAgree : Obligations.DecodeEncodeAgree := by
  refine ⟨fun i _ => ⟨?_, fun hi => ?_, fun hi => ?_⟩, fun w i h => ?_⟩
  · rw [decodeTableWord, tableWord_toNat, decodeWord_encode]
  · have hd := decodeCmd_encode hi
    exact ⟨hd, decodeEvt_ne_ok_of_decodeCmd hd⟩
  · have hd := decodeEvt_encode hi
    exact ⟨hd, fun j hj => decodeEvt_ne_ok_of_decodeCmd hj i hd⟩
  · exact (h.elim eq_encode_of_decodeCmd eq_encode_of_decodeEvt).symm

/-! ## Reserved words -/

/-- The command words the block knows (30_encoding.md R122). -/
theorem commandWord_range {w : Word} {i : Instr} (h : decodeCmd w = .ok i) :
    w.toNat ≤ 4 ∨ (0x10 ≤ w.toNat ∧ w.toNat ≤ 0x12) ∨ (0x18 ≤ w.toNat ∧ w.toNat ≤ 0x19) := by
  have hi := decodeCmd_isEvent h
  rw [eq_encode_of_decodeCmd h]
  cases i with
  | evtConnected | evtLinkDown | evtMtuResult | evtDiscovery | evtWriteDone | evtScanHit => cases hi
  | _ => decide

/-- The event words the block knows (30_encoding.md R126): VALUE is free in the MTU result's row alone. -/
theorem eventWord_range {e : Word} {i : Instr} (h : decodeEvt e = .ok i) :
    e.toNat = 0x80 ∨ e.toNat = 0x81 ∨ (e.toNat % 256 = 0x82 ∧ e.toNat / 256 % 256 < 2) ∨
      (e.toNat % 256 = 0x83 ∧ e.toNat < 1024) ∨ (e.toNat % 256 = 0x84 ∧ e.toNat < 512) ∨ e.toNat = 0x85 := by
  have hi := decodeEvt_isEvent h
  rw [eq_encode_of_decodeEvt h]
  cases i with
  | evtMtuResult granted value =>
    have hg := granted.toNat_lt
    rw [encode_evtMtuResult_toNat]
    omega
  | evtDiscovery svc chr => cases svc <;> cases chr <;> decide
  | evtWriteDone ok => cases ok <;> decide
  | evtConnected | evtLinkDown | evtScanHit => decide
  | _ => cases hi

end Sys2Proof

namespace Sys2Proof.Machine

/-- Settles O3: a known word lies in the ranges of `commandWord_range`, so the decoder refuses a reserved one. -/
theorem reservedCommandChangesOnlyResult : Obligations.ReservedCommandChangesOnlyResult := by
  intro s w rest hin hres
  cases hd : decodeCmd w with
  | ok i =>
    have := commandWord_range hd
    omega
  | error k =>
    rw [step_command hin, runCommand, hd, ← lowByte_eq]
    rfl

/-- Settles O4: a known word lies in the ranges of `eventWord_range`, so the decoder refuses a reserved one. -/
theorem reservedEventOnlySetsIgnored : Obligations.ReservedEventOnlySetsIgnored := by
  intro s e rest hin hres
  cases hd : decodeEvt e with
  | ok i =>
    have := eventWord_range hd
    omega
  | error k =>
    rw [step_event hin, takeEvent, hd]
    rfl

/-! ## Table words -/

/-- Settles O1: the two decoders run on eleven closed words. -/
theorem tableWordsDecode : Obligations.TableWordsDecode := by
  unfold Obligations.TableWordsDecode
  decide

/-- Settles O6: the word placed goes to the port of its operation, and the step runs what that port decodes. -/
theorem fetchWordRunsInstr : Obligations.FetchWordRunsInstr := by
  intro s i
  have hin : (s.withFetchWord 32 (encode i).toNat).inputs = inputOfWord (encode i) :: s.inputs := by
    rw [State.withFetchWord, tableWord_toNat]
  rw [inputOfWord, isEventWord_encode] at hin
  obtain ⟨hcmd, hevt⟩ := stepRunsDecoded (s.withFetchWord 32 (encode i).toNat) (encode i) i s.inputs
  cases hi : i.isEvent with
  | false =>
    rw [hi] at hin
    exact ⟨[.done], hcmd hin (decodeCmd_encode hi), by simp⟩
  | true =>
    rw [hi] at hin
    refine ⟨[], ?_, by simp⟩
    rw [hevt hin (decodeEvt_encode hi), List.append_nil]
    rfl

end Sys2Proof.Machine
end

section
/-! The pixel decision of QUANTIZE (40_quantizer.md R202, R205 to R207): its exact integer form against the
real power, and at gamma 1.0. -/

namespace Sys2Proof.Machine

/-- Dividing both sides of the integer form by `255000 ^ 256 · 255 ^ g` compares two real powers (40_quantizer.md R206). -/
theorem isBlack_iff_div_pow_lt (g S T : Nat) :
    isBlack g S T = true ↔ ((S : ℝ) / 255000) ^ 256 < ((T : ℝ) / 255) ^ g := by
  rw [div_pow, div_pow, div_lt_div_iff₀ (by positivity) (by positivity), isBlack, decide_eq_true_iff]
  exact_mod_cast Iff.rfl

/-- Settles O38: both sides of the real comparison are at least 0, so it survives raising to the power `g`, which turns
the exponent `256 / g` into 256. -/
theorem integerFormIsRealComparison : Obligations.IntegerFormIsRealComparison := by
  intro g S T hg
  have hg0 : g ≠ 0 := by omega
  have hluma : (0 : ℝ) ≤ S / 1000 / 255 := by positivity
  have hpow : (((S : ℝ) / 1000 / 255) ^ ((1 : ℝ) / ((g : ℝ) / 256))) ^ g = ((S : ℝ) / 255000) ^ 256 := by
    have hexp : (1 : ℝ) / ((g : ℝ) / 256) * g = (256 : ℕ) := by
      have : (g : ℝ) ≠ 0 := by exact_mod_cast hg0
      field_simp
      norm_num
    rw [← Real.rpow_mul_natCast hluma, hexp, Real.rpow_natCast, div_div]
    norm_num
  rw [isBlack_iff_div_pow_lt, ← hpow, pow_lt_pow_iff_left₀ (by positivity) (by positivity) hg0, lt_div_iff₀' (by norm_num)]

/-- At gamma 1.0 both sides of the integer form are 256th powers (40_quantizer.md R207). -/
theorem isBlack_gammaOne (S T : Nat) : isBlack 256 S T = true ↔ S < 1000 * T := by
  rw [isBlack, decide_eq_true_iff, ← Nat.mul_pow, ← Nat.mul_pow, Nat.pow_lt_pow_iff_left (by decide)]
  omega

/-- Settles O37: the comparison of the 256th powers' bases, with S and T spelled out for the channels. -/
theorem gammaOneDecision : Obligations.GammaOneDecision := by
  refine ⟨isBlack_gammaOne, fun r g b m => ?_⟩
  rw [isBlack_gammaOne, lumaSum, threshold]
  omega

end Sys2Proof.Machine
end

section
/-! The state after QUANTIZE and after UNPACK (40_quantizer.md R208 to R215, 41_bitmap_codec.md R236, R237):
FB pixel by pixel, and what its bits depend on. -/

namespace Sys2Proof.Machine

/-! ## QUANTIZE -/

/-- The state QUANTIZE leaves at a gamma above 0 (40_quantizer.md R210). -/
def State.quantized (s : State) : State :=
  ({ s with
    mem := s.mem.blit Config.fbBase Config.fbBytes (s.mem.quantByte s.draws s.bayer4 s.qgamma.toNat) }.draw).result
      0x01#8 .ok

theorem exec_quantize {s : State} (h : s.qgamma ≠ 0#16) : exec .quantize s = .next s.quantized := if_neg h

theorem exec_quantize_badArg {s : State} (h : s.qgamma = 0#16) : exec .quantize s = .next (s.reject 0x01#8 .badArg) :=
  if_pos h

theorem State.quantized_peek_fb (s : State) {i : Nat} (hi : i < 4736) :
    s.quantized.mem.peek (0x10000 + i) = some (s.mem.quantByte s.draws s.bayer4 s.qgamma.toNat i) :=
  Memory.peek_blit_add hi

theorem State.quantized_peek_out (s : State) {a : Nat} (ha : ¬ InFb a) : s.quantized.mem.peek a = s.mem.peek a :=
  Memory.peek_blit_out (by simp only [InFb, Config.fbBase, Config.fbBytes] at ha ⊢; omega)

/-- The decision QUANTIZE takes for a pixel: 1 for black (40_quantizer.md R205). -/
def State.quantPixel (s : State) (x y : Nat) : Bool := s.mem.quantBit s.draws s.bayer4 s.qgamma.toNat x y

/-- The decision in the canvas bytes read; the alpha byte is not among them (40_quantizer.md R201, R209). -/
theorem State.quantPixel_eq (s : State) (x y : Nat) :
    s.quantPixel x y = isBlack s.qgamma.toNat
      (lumaSum (canvasRead s x y 0) (canvasRead s x y 1) (canvasRead s x y 2)) (threshold (bayer s.bayer4 x y)) := rfl

/-- The bit of a pixel in the FB byte that holds it (40_quantizer.md R208). -/
theorem State.getLsbD_quantByte (s : State) {x y : Nat} (hx : x < 128) :
    (s.mem.quantByte s.draws s.bayer4 s.qgamma.toNat (16 * y + x / 8)).getLsbD (7 - x % 8) = s.quantPixel x y := by
  have hcol : 8 * ((16 * y + x / 8) % 16) + (7 - (7 - x % 8)) = x := by omega
  have hrow : (16 * y + x / 8) / 16 = y := by omega
  rw [Memory.quantByte, getLsbD_packByte _ (by omega), Config.rowBytes, hcol, hrow, State.quantPixel]

/-- FB after QUANTIZE holds the image whose bits are the decisions: each byte is fixed by its eight pixels. -/
theorem State.quantized_peek_eq {s : State} {image : Nat → Byte}
    (h : ∀ x < 128, ∀ y < 296, s.quantPixel x y = (image (16 * y + x / 8)).getLsbD (7 - x % 8)) :
    ∀ i < 4736, s.quantized.mem.peek (0x10000 + i) = some (image i) := by
  intro i hi
  rw [s.quantized_peek_fb hi, Memory.quantByte, packByte_eq]
  intro k hk
  have hbyte : 16 * (i / 16) + (8 * (i % 16) + k) / 8 = i := by omega
  have hbit : (8 * (i % 16) + k) % 8 = k := by omega
  have hpixel := h (8 * (i % 16) + k) (by omega) (i / 16) (by omega)
  rwa [hbyte, hbit] at hpixel

/-- Settles O36: `getLsbD_quantByte` finds a pixel's bit in its byte, and the bit is the integer comparison. -/
theorem quantizeResult : Obligations.QuantizeResult := by
  refine fun s => ⟨fun hg => ⟨s.quantized, exec_quantize hg, rfl, fun a ha => s.quantized_peek_out ha, ?_⟩,
    exec_quantize_badArg⟩
  intro x hx y hy
  refine ⟨_, s.quantized_peek_fb (by omega), ?_⟩
  rintro S T rfl rfl
  rw [s.getLsbD_quantByte hx, s.quantPixel_eq, isBlack, decide_eq_true_iff, lumaSum, threshold]

/-- Settles O40: equal colour bytes, gamma and matrix give equal decisions, so one image is both contents of FB. -/
theorem quantizeReadsOnlyColourAndGamma : Obligations.QuantizeReadsOnlyColourAndGamma := by
  intro s s' hmatrix hgamma hg hcanvas
  have hpixel : ∀ x < 128, ∀ y < 296, s.quantPixel x y = s'.quantPixel x y := by
    intro x hx y hy
    have hcolour := hcanvas x hx y hy
    rw [State.quantPixel_eq, State.quantPixel_eq, hcolour 0 (by omega), hcolour 1 (by omega), hcolour 2 (by omega),
      hmatrix, hgamma]
  refine ⟨s.quantized, s'.quantized, exec_quantize hg, exec_quantize (hgamma ▸ hg), fun i hi => ?_⟩
  have hfb := State.quantized_peek_eq (fun x hx y hy => (hpixel x hx y hy).trans (s'.getLsbD_quantByte hx).symm) i hi
  rw [hfb, s'.quantized_peek_fb hi]
  exact ⟨rfl, Option.some_ne_none _⟩

/-! ## White and black pixels -/

theorem State.quantPixel_white {s : State} {x y : Nat} (h : ∀ c < 3, canvasRead s x y c = 255#8) :
    s.quantPixel x y = false := by
  have hluma : lumaSum 255#8 255#8 255#8 = 255000 := by decide
  have hband := threshold_bayer_bounds s.bayer4 x y
  rw [quantPixel_eq, h 0 (by omega), h 1 (by omega), h 2 (by omega), hluma, isBlack_full (by omega)]

theorem State.quantPixel_black {s : State} {x y : Nat} (h : ∀ c < 3, canvasRead s x y c = 0#8) :
    s.quantPixel x y = true := by
  have hluma : lumaSum 0#8 0#8 0#8 = 0 := by decide
  rw [quantPixel_eq, h 0 (by omega), h 1 (by omega), h 2 (by omega), hluma, isBlack_zero (threshold_pos _)]

/-- Settles O39: no threshold reaches 255, so every bit of an all-white canvas is 0, and every threshold is above 0, so
every bit of an all-black one is 1. -/
theorem whiteAndBlackCanvas : Obligations.WhiteAndBlackCanvas := by
  refine fun s hg => ⟨fun hwhite => ⟨s.quantized, exec_quantize hg, State.quantized_peek_eq fun x hx y hy => ?_⟩,
    fun hblack => ⟨s.quantized, exec_quantize hg, State.quantized_peek_eq fun x hx y hy => ?_⟩⟩
  · rw [State.quantPixel_white (hwhite x hx y hy), BitVec.getLsbD_zero]
  · have hbit : (BitVec.allOnes 8).getLsbD (7 - x % 8) = true := by
      rw [BitVec.getLsbD_allOnes, decide_eq_true_iff]
      omega
    exact (State.quantPixel_black (hblack x hx y hy)).trans hbit.symm

/-! ## UNPACK and back -/

/-- The state UNPACK leaves (41_bitmap_codec.md R237). -/
def State.unpacked (s : State) : State :=
  ({ s with mem := s.mem.blit Config.canvasBase Config.canvasBytes (s.mem.unpackByte s.draws) }.draw).result 0x02#8 .ok

theorem exec_unpack (s : State) : exec .unpack s = .next s.unpacked := rfl

/-- A colour byte UNPACK wrote: black where the pixel's FB bit is 1, white elsewhere (41_bitmap_codec.md R236). -/
theorem State.canvasRead_unpacked (s : State) {x y c : Nat} (hx : x < 128) (hy : y < 296) (hc : c < 3) :
    canvasRead s.unpacked x y c = if (fbRead s (16 * y + x / 8)).getLsbD (7 - x % 8) = true then 0#8 else 255#8 := by
  have hpeek : s.unpacked.mem.peek (0x40000 + (4 * (128 * y + x) + c)) =
      some (s.mem.unpackByte s.draws (4 * (128 * y + x) + c)) :=
    Memory.peek_blit_add (by simp only [Config.canvasBytes]; omega)
  have hchannel : (4 * (128 * y + x) + c) % 4 ≠ 3 := by omega
  have hcol : (4 * (128 * y + x) + c) / 4 % 128 = x := by omega
  have hrow : (4 * (128 * y + x) + c) / 4 / 128 = y := by omega
  rw [canvasRead, Memory.byteAt_of_peek hpeek, Memory.unpackByte, if_neg hchannel, Config.width, hcol, hrow]
  rfl

/-- QUANTIZE decides for each unpacked pixel the bit that UNPACK read (40_quantizer.md R215). -/
theorem State.quantPixel_unpacked (s : State) {x y : Nat} (hx : x < 128) (hy : y < 296) :
    s.unpacked.quantPixel x y = (fbRead s (16 * y + x / 8)).getLsbD (7 - x % 8) := by
  cases hbit : (fbRead s (16 * y + x / 8)).getLsbD (7 - x % 8) with
  | false => exact quantPixel_white fun c hc => by rw [s.canvasRead_unpacked hx hy hc, hbit]; rfl
  | true => exact quantPixel_black fun c hc => by rw [s.canvasRead_unpacked hx hy hc, hbit]; rfl

/-- Settles O42: the decisions on the unpacked canvas are the bits of the FB that UNPACK read. -/
theorem unpackThenQuantizeRestoresFb : Obligations.UnpackThenQuantizeRestoresFb :=
  fun s hg => ⟨s.unpacked, s.unpacked.quantized, exec_unpack s, exec_quantize hg,
    State.quantized_peek_eq fun _ hx _ hy => s.quantPixel_unpacked hx hy⟩

end Sys2Proof.Machine
end

section
/-! The container codec (41_bitmap_codec.md): UNPACK's whole canvas, the file BMP_ENCODE writes, the files BMP_DECODE
accepts, and the two round trips. -/

namespace Sys2Proof.Machine

/-- A byte something has written is the byte read. -/
theorem Memory.peek_of_ne_none {m : Memory} {a : Nat} (h : m.peek a ≠ none) (d : Nat) :
    m.peek a = some (m.byteAt d a) := by
  obtain ⟨b, hb⟩ := Option.ne_none_iff_exists'.1 h
  rw [Memory.byteAt_of_peek hb, hb]

/-! ## UNPACK -/

theorem State.unpacked_peek_canvas (s : State) {p : Nat} (hp : p < 151552) :
    s.unpacked.mem.peek (0x40000 + p) = some (s.mem.unpackByte s.draws p) :=
  Memory.peek_blit_add hp

theorem State.unpacked_peek_out (s : State) {a : Nat} (ha : ¬ InCanvas a) : s.unpacked.mem.peek a = s.mem.peek a :=
  Memory.peek_blit_out (by simp only [InCanvas, Config.canvasBase, Config.canvasBytes] at ha ⊢; omega)

/-- Every canvas byte is written, so a colour byte is the one `canvasRead_unpacked` reads. -/
theorem State.unpacked_peek_colour (s : State) {x y c : Nat} (hx : x < 128) (hy : y < 296) (hc : c < 3) :
    s.unpacked.mem.peek (0x40000 + 4 * (128 * y + x) + c) =
      some (if (fbRead s (16 * y + x / 8)).getLsbD (7 - x % 8) = true then 0#8 else 255#8) := by
  have hwritten : s.unpacked.mem.peek (0x40000 + (4 * (128 * y + x) + c)) ≠ none := by
    rw [s.unpacked_peek_canvas (by omega)]
    exact Option.some_ne_none _
  rw [Nat.add_assoc, Memory.peek_of_ne_none hwritten s.unpacked.draws, ← s.canvasRead_unpacked hx hy hc, canvasRead]

theorem State.unpacked_peek_alpha (s : State) {x y : Nat} (hx : x < 128) (hy : y < 296) :
    s.unpacked.mem.peek (0x40000 + 4 * (128 * y + x) + 3) = some 255#8 := by
  rw [Nat.add_assoc, s.unpacked_peek_canvas (by omega), Memory.unpackByte, if_pos (by omega)]

/-- Settles O41: each pixel's three colour bytes follow its FB bit, and its fourth byte is the alpha. -/
theorem unpackResult : Obligations.UnpackResult := by
  refine fun s => ⟨s.unpacked, exec_unpack s, rfl, fun a ha => s.unpacked_peek_out ha, ?_⟩
  rintro x hx y hy v rfl
  exact ⟨s.unpacked_peek_colour hx hy (c := 0) (by decide), s.unpacked_peek_colour hx hy (c := 1) (by decide),
    s.unpacked_peek_colour hx hy (c := 2) (by decide), s.unpacked_peek_alpha hx hy⟩

/-! ## BMP_ENCODE -/

/-- The state BMP_ENCODE leaves (41_bitmap_codec.md R241). -/
def State.encoded (s : State) : State :=
  ({ s with
    mem := s.mem.blit Config.fileBase (Config.bmpHdrLen + bmpStride * Config.height) (s.mem.encodeByte s.draws)
    fileLen := BitVec.ofNat 32 (Config.bmpHdrLen + bmpStride * Config.height) }.draw).result 0x03#8 .ok

theorem exec_bmpEncode (s : State) : exec .bmpEncode s = .next s.encoded := rfl

theorem State.encoded_peek_file (s : State) {o : Nat} (ho : o < 4798) :
    s.encoded.mem.peek (0x20000 + o) = some (s.mem.encodeByte s.draws o) :=
  Memory.peek_blit_add ho

theorem State.encoded_peek_out (s : State) {a : Nat} (ha : ¬ InEncoded a) : s.encoded.mem.peek a = s.mem.peek a :=
  Memory.peek_blit_out (by
    simp only [InEncoded, Config.fileBase, Config.bmpHdrLen, Config.height, bmpStride_eq] at ha ⊢
    omega)

theorem State.encoded_peek_ne_none (s : State) {a : Nat} (ha : InEncoded a) : s.encoded.mem.peek a ≠ none := by
  obtain ⟨hlo, hhi⟩ := ha
  obtain ⟨o, rfl⟩ := Nat.exists_eq_add_of_le hlo
  rw [s.encoded_peek_file (by omega)]
  exact Option.some_ne_none _

/-- The row data is FB as read, since rows of 16 bytes carry no padding (41_bitmap_codec.md R234). -/
theorem State.encoded_peek_row (s : State) {i : Nat} (hi : i < 4736) :
    s.encoded.mem.peek (0x20000 + 62 + i) = some (fbRead s i) := by
  have hmod : i % 16 < 16 := Nat.mod_lt i (by decide)
  rw [Nat.add_assoc, s.encoded_peek_file (by omega), Memory.encodeByte, Config.bmpHdrLen, if_neg (by omega),
    Nat.add_sub_cancel_left, Memory.rowByte, bmpStride_eq, Config.rowBytes, if_pos hmod, Nat.div_add_mod]
  rfl

/-- Byte `o` of the encoder's header (41_bitmap_codec.md R240). -/
def headerByte (o : Nat) : Byte := bmpHeader.getD o 0#8

theorem State.fileRead_encoded (s : State) {o : Nat} (ho : o < 62) : fileRead s.encoded o = headerByte o := by
  rw [fileRead, Memory.byteAt_of_peek (s.encoded_peek_file (by omega)), Memory.encodeByte, Config.bmpHdrLen, if_pos ho,
    headerByte]

theorem State.le16_encoded (s : State) {o : Nat} (ho : o + 1 < 62) : le16 (fileRead s.encoded) o = le16 headerByte o := by
  rw [le16, s.fileRead_encoded (by omega), s.fileRead_encoded ho, le16]

theorem State.le32_encoded (s : State) {o : Nat} (ho : o + 3 < 62) : le32 (fileRead s.encoded) o = le32 headerByte o := by
  rw [le32, s.fileRead_encoded (by omega), s.fileRead_encoded (by omega), s.fileRead_encoded (by omega),
    s.fileRead_encoded ho, le32]

/-- Settles O43: the header's fields are those of the constant header, and the rest of the file is FB. -/
theorem encodeResult : Obligations.EncodeResult := by
  refine fun s => ⟨s.encoded, exec_bmpEncode s, rfl, fun a ha => s.encoded_peek_out ha,
    fun a ha => s.encoded_peek_ne_none ha, ?_⟩
  have hrows : ∀ r < 296, ∀ b < 16, s.encoded.mem.peek (0x20000 + 62 + 16 * r + b) = some (fbRead s (16 * r + b)) :=
    fun r hr b hb => by rw [Nat.add_assoc, s.encoded_peek_row (by omega)]
  simp (disch := decide) only [s.le16_encoded, s.le32_encoded, s.fileRead_encoded]
  exact ⟨rfl, rfl, rfl, rfl, rfl, rfl, rfl, rfl, rfl, rfl, rfl, rfl, rfl, rfl, rfl, rfl, rfl, rfl, hrows⟩

/-- The encoder's file passes every check (41_bitmap_codec.md R256): two entries, near-white and near-black. -/
theorem State.encoded_fileMatches (s : State) : FileMatches (fileRead s.encoded) s.encoded.fileLen.toNat := by
  have hhs : le32 (fileRead s.encoded) 14 = 40 := s.le32_encoded (by decide)
  have hpalette : ∀ c < 3, 200 < (headerByte (54 + c)).toNat ∧ (headerByte (58 + c)).toNat < 55 := by decide
  have hentry : ∀ c < 3, 200 < (fileRead s.encoded (54 + c)).toNat ∧ (fileRead s.encoded (58 + c)).toNat < 55 := by
    intro c hc
    rw [s.fileRead_encoded (by omega), s.fileRead_encoded (by omega)]
    exact hpalette c hc
  have hlen : s.encoded.fileLen.toNat = 4798 := rfl
  rw [FileMatches, hhs, hlen]
  simp (disch := decide) only [s.le16_encoded, s.le32_encoded, s.fileRead_encoded]
  exact ⟨by decide, rfl, rfl, by decide, rfl, rfl, rfl, rfl, .inr rfl, .inr ⟨rfl, hentry⟩, by decide⟩

/-- The encoder always writes the rows top-down (41_bitmap_codec.md R235). -/
theorem State.fileRow_encoded (s : State) : fileRow (fileRead s.encoded) = id := by
  have hheight : le32 (fileRead s.encoded) 22 ≠ 296 := by
    rw [s.le32_encoded (by decide)]
    decide
  funext r
  rw [fileRow, if_neg hheight, id]

/-! ## The decoder's checks -/

theorem rd16_eq_le16 (rd : Nat → Byte) (o : Nat) : rd16 rd o = le16 rd o := by simp [rd16, leNat, le16]

theorem rd32_eq_le32 (rd : Nat → Byte) (o : Nat) : rd32 rd o = le32 rd o := by
  simp only [rd32, leNat, le32]
  omega

theorem le32_lt (rd : Nat → Byte) (o : Nat) : le32 rd o < 2 ^ 32 := rd32_eq_le32 rd o ▸ rd32_lt rd o

theorem s32_eq_width {v : Nat} (h : v < 2 ^ 32) : s32 v = Config.width ↔ v = 128 := by
  rw [s32_eq h, Config.width]
  split <;> omega

/-- Absolute height 296 in two's complement (41_bitmap_codec.md R235, R250). -/
theorem natAbs_s32_eq_height {v : Nat} (h : v < 2 ^ 32) :
    (s32 v).natAbs = Config.height ↔ v = 296 ∨ v = 2 ^ 32 - 296 := by
  rw [s32_eq h, Config.height]
  split <;> omega

theorem s32_neg_iff {v : Nat} (h : v = 296 ∨ v = 2 ^ 32 - 296) : s32 v < 0 ↔ v ≠ 296 := by
  rcases h with rfl | rfl <;> decide

theorem paletteOk_iff (rd : Nat → Byte) (p : Nat) :
    paletteOk rd p = true ↔ ∀ c < 3, 200 < (rd (p + c)).toNat ∧ (rd (p + 4 + c)).toNat < 55 := by
  simp [paletteOk]

/-- Counting the entries in the gap before the pixel data (41_bitmap_codec.md R251): none, or two that pass R252. -/
theorem palette_checks_iff {off p : Nat} {passes : Prop} :
    ((p ≤ off ∧ (off - p) % 4 = 0) ∧ ((off - p) / 4 ≠ 0 → (off - p) / 4 = 2) ∧ ((off - p) / 4 = 2 → passes)) ↔
      off = p ∨ (off = p + 8 ∧ passes) := by
  constructor
  · rintro ⟨hgap, hcount, hpasses⟩
    by_cases htwo : (off - p) / 4 = 2
    · exact .inr ⟨by omega, hpasses htwo⟩
    · exact .inl (by omega)
  · rintro (rfl | ⟨rfl, hpasses⟩)
    · exact ⟨by omega, by omega, fun htwo => by omega⟩
    · exact ⟨by omega, by omega, fun _ => hpasses⟩

/-- The decoder's chain of checks is `FileMatches`, and it answers the pixel-data offset and the row order. -/
theorem bmpParse_eq_some_iff {rd : Nat → Byte} {len : Nat} {answer : Nat × Bool} :
    bmpParse rd len = some answer ↔
      FileMatches rd len ∧ (le32 rd 10, decide (le32 rd 22 ≠ 296)) = answer := by
  have hwidth := s32_eq_width (le32_lt rd 18)
  have hheight := natAbs_s32_eq_height (le32_lt rd 22)
  simp only [bmpParse, FileMatches, rd16_eq_le16, rd32_eq_le32, Option.ite_none_left_eq_some, Option.some.injEq,
    not_or, not_and, not_not, not_lt, Bool.not_eq_false, hwidth, hheight, paletteOk_iff]
  constructor
  · rintro ⟨hlen, ⟨hB, hM⟩, hhs, hplanes, hbpp, hcomp, hw, hh, hgap, hcount, hrows, hcolours, hanswer⟩
    simp only [s32_neg_iff hh] at hanswer
    exact ⟨⟨hlen, hB, hM, hhs, hplanes, hbpp, hcomp, hw, hh, palette_checks_iff.1 ⟨hgap, hcount, hcolours⟩, hrows⟩,
      hanswer⟩
  · rintro ⟨⟨hlen, hB, hM, hhs, hplanes, hbpp, hcomp, hw, hh, hpalette, hrows⟩, hanswer⟩
    obtain ⟨hgap, hcount, hcolours⟩ := palette_checks_iff.2 hpalette
    simp only [← s32_neg_iff hh] at hanswer
    exact ⟨hlen, ⟨hB, hM⟩, hhs, hplanes, hbpp, hcomp, hw, hh, hgap, hcount, hrows, hcolours, hanswer⟩

/-! ## BMP_DECODE -/

/-- The state BMP_DECODE leaves on a match (41_bitmap_codec.md R254, R255). -/
def State.decoded (s : State) : State :=
  ({ s with
    mem := s.mem.blit Config.fbBase Config.fbBytes
      (decodeByte (fileRead s) (le32 (fileRead s) 10) (decide (le32 (fileRead s) 22 ≠ 296))) }.draw).result 0x04#8 .ok

theorem exec_bmpDecode {s : State} (h : FileMatches (fileRead s) s.fileLen.toNat) :
    exec .bmpDecode s = .next s.decoded := by
  have hparse : bmpParse (s.mem.fileByte s.draws) s.fileLen.toNat =
      some (le32 (fileRead s) 10, decide (le32 (fileRead s) 22 ≠ 296)) := bmpParse_eq_some_iff.2 ⟨h, rfl⟩
  rw [exec, execBmpDecode, hparse]
  rfl

theorem exec_bmpDecode_noMatch {s : State} (h : ¬ FileMatches (fileRead s) s.fileLen.toNat) :
    exec .bmpDecode s = .next (s.draw.result 0x04#8 .noMatch) := by
  have hparse : bmpParse (s.mem.fileByte s.draws) s.fileLen.toNat = none :=
    Option.eq_none_iff_forall_ne_some.2 fun _ hanswer => h (bmpParse_eq_some_iff.1 hanswer).1
  rw [exec, execBmpDecode, hparse]

theorem State.decoded_peek_out (s : State) {a : Nat} (ha : ¬ InFb a) : s.decoded.mem.peek a = s.mem.peek a :=
  Memory.peek_blit_out (by simp only [InFb, Config.fbBase, Config.fbBytes] at ha ⊢; omega)

/-- Image row `r` of FB is its file row (41_bitmap_codec.md R254). -/
theorem State.decoded_peek_row (s : State) {r b : Nat} (hr : r < 296) (hb : b < 16) :
    s.decoded.mem.peek (0x10000 + 16 * r + b) =
      some (fileRead s (le32 (fileRead s) 10 + 16 * fileRow (fileRead s) r + b)) := by
  have hpeek : s.decoded.mem.peek (0x10000 + (16 * r + b)) = some (decodeByte (fileRead s) (le32 (fileRead s) 10)
      (decide (le32 (fileRead s) 22 ≠ 296)) (16 * r + b)) := Memory.peek_blit_add (by simp only [Config.fbBytes]; omega)
  have hrow : (16 * r + b) / 16 = r := by omega
  have hcol : (16 * r + b) % 16 = b := by omega
  rw [Nat.add_assoc, hpeek, decodeByte, fileRow, Config.rowBytes, hrow, hcol, bmpStride_eq]
  by_cases htop : le32 (fileRead s) 22 = 296 <;> simp [htop]

/-- Settles O44: on a match `decoded_peek_row` gives every FB byte, and otherwise the parse answers nothing. -/
theorem decodeResult : Obligations.DecodeResult :=
  fun s => ⟨fun h => ⟨s.decoded, exec_bmpDecode h, rfl, fun _ ha => s.decoded_peek_out ha,
      fun _ hr _ hb => s.decoded_peek_row hr hb⟩,
    fun h => ⟨s.draw.result 0x04#8 .noMatch, exec_bmpDecode_noMatch h, rfl⟩⟩

/-! ## Round trips -/

/-- Settles O45: the encoder's file is accepted and top-down, and its row data is FB. -/
theorem encodeThenDecodeRoundTrip : Obligations.EncodeThenDecodeRoundTrip := by
  refine fun s => ⟨s.encoded, s.encoded.decoded, exec_bmpEncode s, exec_bmpDecode s.encoded_fileMatches, rfl, ?_⟩
  intro i hi
  have hoffset : le32 (fileRead s.encoded) 10 = 62 := s.le32_encoded (by decide)
  have hpeek := s.encoded.decoded_peek_row (r := i / 16) (b := i % 16) (by omega) (by omega)
  rw [hoffset, s.fileRow_encoded, id, Nat.add_assoc, Nat.add_assoc, Nat.div_add_mod] at hpeek
  rw [hpeek, fileRead, ← Nat.add_assoc, Memory.byteAt_of_peek (s.encoded_peek_row hi)]

/-- Settles O46: the encoder's file is accepted and top-down, and its rows are those the decoder wrote. -/
theorem reencodeKeepsPixels : Obligations.ReencodeKeepsPixels := by
  refine fun s h => ⟨s.decoded, s.decoded.encoded, exec_bmpDecode h, exec_bmpEncode s.decoded,
    s.decoded.le32_encoded (by decide), s.decoded.encoded_fileMatches, s.decoded.fileRow_encoded, ?_⟩
  intro r hr b hb
  rw [Nat.add_assoc, s.decoded.encoded_peek_row (by omega), fbRead, ← Nat.add_assoc,
    Memory.byteAt_of_peek (s.decoded_peek_row hr hb)]

end Sys2Proof.Machine
end

section
/-! The session's commands and events, one by one (42_session.md R290 to R345): an operation's branches are record updates
once the session state says whether STATE_CHG is set. -/

namespace Sys2Proof.Machine

/-! ## Entering a state -/

/-- STATE_CHG is set with a state that is another one (42_session.md R284). -/
theorem State.enterState_of_ne {s : State} {n : SessState} (h : s.sess ≠ n) :
    s.enterState n = { s with sess := n, intStatus := s.intStatus ||| 0x01#8 } := if_neg h

/-- Entering a state, whether or not the block is in it. -/
theorem State.enterState_eq (s : State) (n : SessState) :
    s.enterState n = { s with sess := n, intStatus := s.intStatus ||| if s.sess = n then 0#8 else 0x01#8 } := by
  by_cases h : s.sess = n
  · subst h; simp [State.enterState]
  · rw [State.enterState_of_ne h, if_neg h]

theorem State.stopScan_eq (s : State) :
    s.stopScan = { s with
      requests := s.requests ++ (if s.scanActive = true then [.scanStop] else []), scanActive := false } := by
  unfold State.stopScan
  split
  · rfl
  · next h => simp [← Bool.eq_false_iff.2 h]

/-! ## Commands without a transfer -/

/-- Settles O23. -/
theorem nopResult : Obligations.NopResult := fun _ => rfl

/-- Settles O24: the scan is stopped first, a failed link is dropped next, and CONNECTING is entered from another
state. -/
theorem connectResult : Obligations.ConnectResult := by
  refine fun s => ⟨fun h => ?_, fun h => if_pos (by rcases h with h | h | h | h | h <;> simp [h])⟩
  have hfree : ¬ (s.sess ≠ .idle ∧ s.sess ≠ .disconnected ∧ s.sess ≠ .failed) := by tauto
  have hne : s.sess ≠ .connecting := by rcases h with h | h | h <;> simp [h]
  rw [exec, execConnect, if_neg hfree]
  dsimp only
  rw [State.enterState_of_ne (by split <;> simpa using hne), State.stopScan_eq]
  by_cases hf : s.sess = .failed <;> simp [hf, State.emit, State.result, State.dropLink, State.retire]

/-- Settles O25. -/
theorem disconnectResult : Obligations.DisconnectResult := by
  intro s
  rw [exec, execDisconnect, State.enterState_eq]
  by_cases hs : s.sess = .sending
  · simp [hs, State.emit, State.raise, State.result, State.dropLink, State.retire, IntBit.mask, IntBit.pos]
  by_cases hu : s.sess = .idle ∨ s.sess = .disconnected <;>
    simp [hs, hu, State.emit, State.result, State.dropLink, State.retire]

/-- Settles O31. -/
theorem scanStartResult : Obligations.ScanStartResult := by
  refine fun s => ⟨fun hs hscan => ?_, fun hs hscan => ?_, fun hs => if_pos (not_or.1 hs)⟩ <;>
    rw [exec, execScanStart, if_neg (by tauto)]
  · simp [hscan, State.emit, State.result]
  · simp [hscan, State.result]

/-- Settles O32. -/
theorem scanStopResult : Obligations.ScanStopResult := fun s => by
  rw [exec, execScanStop, State.stopScan_eq]
  rfl

/-! ## Events of the link and the scan -/

/-- Settles O26. -/
theorem evtConnectedResult : Obligations.EvtConnectedResult := by
  refine fun s => ⟨fun hs => ?_, fun hs => exec_of_unexpectedIn hs⟩
  rw [exec, execEvtConnected, if_neg (not_not.2 hs), State.enterState_of_ne (by simp [hs])]
  rfl

/-- Settles O27. -/
theorem evtMtuResultResult : Obligations.EvtMtuResultResult := by
  refine fun s granted value => ⟨fun hs => ?_, fun hs => exec_of_unexpectedIn hs⟩
  rw [exec, execEvtMtuResult, if_neg (not_not.2 hs)]
  dsimp only
  rw [State.enterState_of_ne (by simp [hs])]
  rfl

/-- Settles O28: SVC_FOUND decides the cause before CHAR_FOUND does. -/
theorem evtDiscoveryResult : Obligations.EvtDiscoveryResult := by
  refine fun s svc chr => ⟨fun hs hfound => ?_, fun hs hmissing => ?_, fun hs => exec_of_unexpectedIn hs⟩
  · rw [exec, execEvtDiscovery, if_neg (not_not.2 hs), if_pos (by simp [hfound]), State.enterState_of_ne (by simp [hs])]
  · rw [exec, execEvtDiscovery, if_neg (not_not.2 hs), if_neg (by simpa using hmissing)]
    dsimp only
    rw [State.enterState_of_ne (by simp [hs])]
    cases svc <;> simp [State.raise, IntBit.mask, IntBit.pos, BitVec.or_assoc]

/-- Settles O33. -/
theorem evtLinkDownResult : Obligations.EvtLinkDownResult := by
  intro s
  rw [exec, execEvtLinkDown, State.enterState_eq]
  by_cases hs : s.sess = .sending <;>
    simp [hs, State.raise, State.dropLink, State.retire, IntBit.mask, IntBit.pos]

/-- Settles O34: a 32-bit sum is the sum modulo 2^32. -/
theorem evtScanHitResult : Obligations.EvtScanHitResult := by
  refine fun s => ⟨fun hs => ?_, fun hs => exec_of_unexpectedIn hs⟩
  have hwrap : BitVec.ofNat 32 ((s.scanHits.toNat + 1) % 2 ^ 32) = s.scanHits + 1#32 :=
    BitVec.eq_of_toNat_eq (by simp)
  rw [exec, execEvtScanHit, if_neg (by simp [hs]), hwrap]
  rfl

/-! ## SEND and its acknowledgments -/

/-- The state a SEND that starts leaves (42_session.md R318, R320). -/
def State.started (s : State) : State :=
  { s with
    frame := s.frame.blit 0 4740 (s.mem.frameByte s.draws), draws := s.draws + 1
    sentTotal := 0#32, expectedTotal := 4740#32, failCause := .noCause
    requests := s.requests ++ [.write [0x46#8, 0x42#8, 0x80#8, 0x12#8]]
    inflightLen := 4#16, txOffset := 4#32, inFlight := true, sess := .sending
    intStatus := s.intStatus ||| 0x01#8, resultCode := .ok, resultOpcode := 0x12#8 }

theorem exec_send {s : State} (h : s.sendReady = true) : exec .send s = .next s.started := by
  have hne : s.sess ≠ .sending := by rcases (s.sendReady_iff.1 h).2 with h | ⟨h, -⟩ <;> simp [h]
  rw [exec, execSend, if_neg hne, if_neg (by simp [h])]
  dsimp only
  rw [State.enterState_of_ne (by simpa using hne)]
  simp [State.started, State.issueChunk, State.emit, State.draw, State.result, Memory.bytesAt_frame_header]

/-- What FRAME holds once a send has started (42_session.md R318). -/
theorem State.started_peek (s : State) {o : Nat} (ho : o < 4740) :
    s.started.frame.peek o = some (s.mem.frameByte s.draws o) := Memory.peek_frame ho

/-- Settles O29: `State.started` when SEND finds what it needs, and its two refusals. -/
theorem sendResult : Obligations.SendResult := by
  refine fun s => ⟨fun h => ⟨s.started, exec_send (s.sendReady_iff.2 h), rfl, s.started_peek (by decide),
    s.started_peek (by decide), s.started_peek (by decide), s.started_peek (by decide), fun i hi => ?_,
    fun o ho => Memory.peek_blit_out (.inr (by simpa using ho))⟩, fun h => if_pos h, fun hne h => ?_⟩
  · rw [s.started_peek (by omega), Nat.add_comm]
    rfl
  · rw [exec, execSend, if_neg hne, if_pos (by rwa [← Bool.not_eq_true, s.sendReady_iff])]
    rfl

/-- The state after a successful acknowledgment while bytes remain: the next chunk is out (42_session.md R321). -/
def State.chunkOut (s : State) : State :=
  { s with
    draws := s.draws + 1, sentTotal := s.sentTotal + s.inflightLen.setWidth 32
    requests := s.requests ++ [.write (s.frame.bytesAt s.draws s.txOffset.toNat s.nextChunkLen)]
    inflightLen := BitVec.ofNat 16 s.nextChunkLen, txOffset := s.txOffset + BitVec.ofNat 32 s.nextChunkLen }

theorem exec_writeDone_more {s : State} (hs : s.sess = .sending) (hf : s.inFlight = true)
    (hmore : s.txOffset.toNat < 4740) :
    exec (.evtWriteDone true) s = .next s.chunkOut := by
  have hcursor : BitVec.ofNat 32 (s.txOffset.toNat + s.nextChunkLen) = s.txOffset + BitVec.ofNat 32 s.nextChunkLen := by
    rw [BitVec.ofNat_add, BitVec.ofNat_toNat, BitVec.setWidth_eq]
  rw [exec, execEvtWriteDone, if_neg (by simp [hs, hf]), if_pos rfl, if_pos hmore]
  simp [State.issueChunk, State.emit, State.draw, State.chunkOut, hcursor, hf]

/-- The state after the acknowledgment of the last chunk (42_session.md R321). -/
def State.sendDone (s : State) : State :=
  { s with
    sentTotal := s.sentTotal + s.inflightLen.setWidth 32, inFlight := false, inflightLen := 0#16
    sess := .ready, intStatus := s.intStatus ||| 0x03#8 }

theorem exec_writeDone_last {s : State} (hs : s.sess = .sending) (hf : s.inFlight = true)
    (hlast : 4740 ≤ s.txOffset.toNat) :
    exec (.evtWriteDone true) s = .next s.sendDone := by
  rw [exec, execEvtWriteDone, if_neg (by simp [hs, hf]), if_pos rfl]
  dsimp only
  rw [if_neg (by simpa using hlast), State.enterState_of_ne (by simp [hs])]
  simp [State.sendDone, State.raise, State.retire, IntBit.mask, IntBit.pos, BitVec.or_assoc]

/-- The state after a failed acknowledgment (42_session.md R321). -/
def State.sendFailed (s : State) : State :=
  { s with
    inFlight := false, inflightLen := 0#16, failCause := .sendNack, sess := .failed
    intStatus := s.intStatus ||| 0x05#8 }

theorem exec_writeDone_failed {s : State} (hs : s.sess = .sending) (hf : s.inFlight = true) :
    exec (.evtWriteDone false) s = .next s.sendFailed := by
  rw [exec, execEvtWriteDone, if_neg (by simp [hs, hf]), if_neg (by decide)]
  dsimp only
  rw [State.enterState_of_ne (by simp [hs])]
  simp [State.sendFailed, State.raise, State.retire, IntBit.mask, IntBit.pos, BitVec.or_assoc]

/-- Settles O30: the chunk that goes out is `State.nextChunkLen` bytes of FRAME from the cursor on. -/
theorem evtWriteDoneResult : Obligations.EvtWriteDoneResult := by
  refine fun s => ⟨fun hs hf hmore => ⟨s.chunkOut, exec_writeDone_more hs hf hmore, ?_⟩,
    fun hs hf => exec_writeDone_last hs hf, fun hs hf => exec_writeDone_failed hs hf, fun ok h => exec_of_unexpectedIn h⟩
  rintro len rfl
  rfl

end Sys2Proof.Machine
end

section
/-! What the session keeps over every operation and every step (42_session.md R284 to R286, R324, R350): the state an
operation leaves, the requests it adds, and its refusals, each read off its branches once. -/

namespace Sys2Proof.Machine

/-! ## SESSION.STATE -/

/-- The state an operation leaves is the table's (42_session.md R350), unless SEND finds no characteristic or a write
result finds no chunk outstanding, which leave it as it was. -/
theorem exec_sess {i : Instr} {s t : State} (h : exec i s = .next t) : t.sess = tableState i s ∨
    (t.sess = s.sess ∧ ((i = .send ∧ s.sess ≠ .sending ∧ s.sendReady = false) ∨
      ∃ ok, i = .evtWriteDone ok ∧ s.inFlight = false)) := by
  cases i <;> simp only [exec] at h
  case nop | unpack | bmpEncode | scanStop | disconnect | evtLinkDown => cases h; simp [tableState]
  case bmpDecode =>
    unfold execBmpDecode at h
    split at h <;> cases h <;> simp [tableState]
  case quantize | scanStart | evtScanHit =>
    simp only [execQuantize, execScanStart, execEvtScanHit] at h
    split_ifs at h <;> cases h <;> simp [tableState]
  case connect =>
    unfold execConnect at h
    split at h <;> cases h
    case isTrue hbusy =>
      obtain ⟨hidle, hdisc, hfailed⟩ := hbusy
      exact .inl (by simp [tableState])
    case isFalse hfree =>
      have hs : s.sess = .idle ∨ s.sess = .disconnected ∨ s.sess = .failed := by tauto
      rcases hs with hs | hs | hs <;> simp [tableState, hs]
  case evtConnected | evtMtuResult | evtDiscovery =>
    simp only [execEvtConnected, execEvtMtuResult, execEvtDiscovery] at h
    split_ifs at h <;> cases h <;> simp_all [tableState]
  case send =>
    unfold execSend at h
    split_ifs at h with hs hr <;> cases h
    · simp [tableState, hs]
    · exact .inr ⟨rfl, .inl ⟨rfl, hs, hr⟩⟩
    · obtain ⟨-, hs | ⟨hs, hc⟩⟩ := s.sendReady_iff.1 (Bool.not_eq_false _ ▸ hr) <;> simp [tableState, *]
  case evtWriteDone ok =>
    unfold execEvtWriteDone at h
    split at h
    case isTrue hu =>
      cases h
      rcases hu with hs | hf
      · exact .inl (by simp [tableState])
      · exact .inr ⟨rfl, .inr ⟨ok, rfl, hf⟩⟩
    split_ifs at h <;> cases h <;> simp_all [tableState]

/-- Settles O20: under the invariants SEND's characteristic is there exactly in the table's cells, and a chunk is
outstanding in SENDING (R54 (a), (b)). -/
theorem transitionTable : Obligations.TransitionTable := by
  intro i s t hi h
  obtain htable | ⟨hsame, ⟨rfl, hs, hr⟩ | ⟨ok, rfl, hf⟩⟩ := exec_sess h
  · exact htable
  · have hready : ¬ (s.sess = .ready ∨ (s.sess = .failed ∧ s.failCause = .sendNack)) := by
      intro hcell
      have hcv := hi.charValid_iff.2 (hcell.imp_right .inr)
      simp [s.sendReady_iff.2 ⟨hcv, hcell⟩] at hr
    rw [hsame]
    cases hstate : s.sess <;> simp_all [tableState]
  · have hs : s.sess ≠ .sending := fun hs => by simp [hi.inFlight_iff.2 hs] at hf
    rw [hsame]
    simp [tableState]

/-- Settles O14: STATE_CHG has no other cause, and a reserved command word changes neither. -/
theorem stateChgExactlyOnChange : Obligations.StateChgExactlyOnChange := by
  have hexec : ∀ (i : Instr) (s t : State), exec i s = .next t →
      t.flag .stateChg = (s.flag .stateChg || decide (t.sess ≠ s.sess)) := fun i s t h =>
    Bool.eq_iff_iff.2 (by simp [exec_flag h, FlagCause, eq_comm (a := s.sess)])
  refine ⟨hexec, fun w s t h => ?_⟩
  unfold runCommand at h
  split at h
  case h_1 i _ => exact hexec i s t h
  case h_2 => cases h; simp

@[simp] theorem State.writeReg_sess (s : State) (off : Nat) (v : Word) : (s.writeReg off v).sess = s.sess := by
  rw [State.writeReg_frame]

/-- A command other than DISCONNECT leaves a waiting state as it is (42_session.md R350). -/
theorem exec_sess_of_waiting {i : Instr} {s t : State} (hi : i.isEvent = false) (h : exec i s = .next t)
    (hw : s.sess = .connecting ∨ s.sess = .negotiatingMtu ∨ s.sess = .discovering ∨ s.sess = .sending) :
    i = .disconnect ∨ t.sess = s.sess := by
  obtain htable | ⟨hsame, -⟩ := exec_sess h
  · rw [htable]
    cases i
    case disconnect => exact .inl rfl
    case connect | send => rcases hw with hs | hs | hs | hs <;> simp [tableState, hs]
    case nop | quantize | unpack | bmpEncode | bmpDecode | scanStart | scanStop => exact .inr rfl
    all_goals cases hi
  · exact .inr hsame

/-- Settles O9: over the ways a step can end, of which only commands, events and reset can change the session. -/
theorem waitingStatesLeftOnlyByEventOrDisconnect : Obligations.WaitingStatesLeftOnlyByEventOrDisconnect := by
  intro s t h hw hne
  obtain ⟨-, rfl⟩ | ⟨x, rest, hin, hx⟩ := step_cases h
  · exact absurd rfl hne
  refine ⟨rest, ?_⟩
  rcases hx with ⟨rfl, -⟩ | ⟨w, i, rfl, hd, hexec⟩ | ⟨w, e, -, -, rfl⟩ | ⟨e, i, rfl, -, -⟩ | ⟨e, err, rfl, -, -⟩ |
    ⟨a, k, -, rfl⟩ | ⟨addr, w, v, -, rfl | rfl⟩ | ⟨addr, v, -, -, rfl⟩ | ⟨addr, w, v, r, -, -, -, rfl⟩
  · exact .inl hin
  · obtain rfl | hsame := exec_sess_of_waiting (decodeCmd_isEvent hd) hexec hw
    · cases eq_encode_of_decodeCmd hd
      exact .inr (.inl hin)
    · exact absurd hsame hne
  · simp at hne
  · exact .inr (.inr ⟨e, hin⟩)
  · exact .inr (.inr ⟨e, hin⟩)
  all_goals simp at hne

/-! ## Refusals -/

/-- A command does its work, with OK or NO_MATCH, or is refused (42_session.md R285, 60_exceptions.md R401). -/
theorem exec_command_cases {i : Instr} {s t : State} (hc : i.isEvent = false) (h : exec i s = .next t) :
    t.resultCode = .ok ∨ t.resultCode = .noMatch ∨ ∃ c, t = s.reject (lowByte (encode i)) c := by
  cases i <;> simp only [exec] at h
  case nop | unpack | bmpEncode | disconnect | scanStop => cases h; exact .inl rfl
  case bmpDecode =>
    unfold execBmpDecode at h
    split at h <;> cases h
    · exact .inr (.inl rfl)
    · exact .inl rfl
  case quantize | connect | scanStart =>
    simp only [execQuantize, execConnect, execScanStart] at h
    split at h <;> cases h
    · exact .inr (.inr ⟨_, rfl⟩)
    · exact .inl rfl
  case send =>
    unfold execSend at h
    split_ifs at h <;> cases h
    · exact .inr (.inr ⟨_, rfl⟩)
    · exact .inr (.inr ⟨_, rfl⟩)
    · exact .inl rfl
  all_goals cases hc

/-- Settles O22. -/
theorem preconditionFailureChangesNothingElse : Obligations.PreconditionFailureChangesNothingElse := by
  intro i s t hc h hcode
  obtain hok | hnm | ⟨c, rfl⟩ := exec_command_cases hc h
  · simp [hok] at hcode
  · simp [hnm] at hcode
  · rfl

/-! ## The request history -/

/-- An operation adds requests that are no T_WRITE, or one T_WRITE, which is then outstanding (42_session.md R324). -/
theorem exec_requests {i : Instr} {s t : State} (h : exec i s = .next t) :
    (∃ new, t.requests = s.requests ++ new ∧ ∀ bs, Request.write bs ∉ new) ∨
    ∃ bs, t.requests = s.requests ++ [.write bs] ∧ t.inFlight = true ∧ t.inflightLen.toNat = bs.length ∧
      ((i = .send ∧ s.sess ≠ .sending) ∨ (i = .evtWriteDone true ∧ s.inFlight = true)) := by
  cases i <;> simp only [exec] at h
  case send =>
    unfold execSend at h
    split_ifs at h with hs hr <;> cases h
    · exact .inl ⟨[], by simp⟩
    · exact .inl ⟨[], by simp⟩
    · exact .inr ⟨_, by simp; rfl, by simp, by simp, .inl ⟨rfl, hs⟩⟩
  case evtWriteDone ok =>
    unfold execEvtWriteDone at h
    split at h
    case isTrue hu => cases h; exact .inl ⟨[], by simp⟩
    split_ifs at h with hok hmore <;> cases h
    · have hlen := (s.nextChunkLen_bounds hmore).2.1
      exact .inr ⟨_, rfl, rfl, by simp; omega, .inr ⟨by simp [hok], by simp_all⟩⟩
    · exact .inl ⟨[], by simp⟩
    · exact .inl ⟨[], by simp⟩
  case bmpDecode =>
    unfold execBmpDecode at h
    split at h <;> cases h <;> exact .inl ⟨[], by simp⟩
  case nop | unpack | bmpEncode => cases h; exact .inl ⟨[], by simp⟩
  case quantize | evtScanHit | evtLinkDown =>
    simp only [execQuantize, execEvtScanHit, execEvtLinkDown] at h
    split_ifs at h <;> cases h <;> exact .inl ⟨[], by simp⟩
  case connect =>
    unfold execConnect at h
    split at h <;> cases h
    · exact .inl ⟨[], by simp⟩
    · refine .inl ⟨(if s.scanActive = true then [.scanStop] else []) ++
        (if s.sess = .failed then [.disconnect] else []) ++ [.connect], ?_, by split_ifs <;> simp⟩
      by_cases hscan : s.scanActive = true <;> by_cases hf : s.sess = .failed <;> simp [hscan, hf]
  case disconnect => cases (disconnectResult s).symm.trans h; exact .inl ⟨_, rfl, by split <;> simp⟩
  case scanStop => cases (scanStopResult s).symm.trans h; exact .inl ⟨_, rfl, by split <;> simp⟩
  case scanStart =>
    unfold execScanStart at h
    split_ifs at h <;> cases h
    · exact .inl ⟨[], by simp⟩
    · exact .inl ⟨[], by simp⟩
    · exact .inl ⟨[.scanStart], by simp⟩
  case evtConnected =>
    unfold execEvtConnected at h
    split at h <;> cases h
    · exact .inl ⟨[], by simp⟩
    · exact .inl ⟨[.requestMtu s.prefMtu], by simp⟩
  case evtMtuResult =>
    unfold execEvtMtuResult at h
    split at h <;> cases h
    · exact .inl ⟨[], by simp⟩
    · exact .inl ⟨[.discover], by simp⟩
  case evtDiscovery =>
    unfold execEvtDiscovery at h
    split_ifs at h <;> cases h <;> exact .inl ⟨[], by simp⟩

@[simp] theorem State.writeReg_requests (s : State) (off : Nat) (v : Word) :
    (s.writeReg off v).requests = s.requests := by
  rw [State.writeReg_frame]

/-- Settles O19: over the ways a step can end, of which only SEND and a successful write result add a T_WRITE; outside
SENDING none is outstanding (R54 (a)). -/
theorem oneWriteOutstanding : Obligations.OneWriteOutstanding := by
  intro s t hi h hreset
  obtain ⟨-, rfl⟩ | ⟨x, rest, hin, hx⟩ := step_cases h
  · exact ⟨[], by simp⟩
  rcases hx with ⟨rfl, -⟩ | ⟨w, i, rfl, hd, hexec⟩ | ⟨w, e, -, -, rfl⟩ | ⟨e, i, rfl, hd, hexec⟩ |
    ⟨e, err, -, -, rfl⟩ | ⟨a, k, -, rfl⟩ | ⟨addr, w, v, -, rfl | rfl⟩ | ⟨addr, v, -, -, rfl⟩ | ⟨addr, w, v, r, -, -, -, rfl⟩
  · exact absurd hin (hreset rest)
  · obtain ⟨new, hnew, hno⟩ | ⟨bs, hnew, hf, hlen, ⟨rfl, hs⟩ | ⟨rfl, -⟩⟩ := exec_requests hexec
    · exact ⟨new, hnew, fun bs hbs => absurd hbs (hno bs)⟩
    · cases eq_encode_of_decodeCmd hd
      refine ⟨_, hnew, fun bs' hbs => ?_⟩
      cases List.mem_singleton.1 hbs
      exact ⟨rfl, hf, hlen, rest, .inl ⟨hin, (hi.not_inFlight hs).1⟩⟩
    · cases decodeCmd_isEvent hd
  · exact ⟨[], by simp⟩
  · obtain ⟨new, hnew, hno⟩ | ⟨bs, hnew, hf, hlen, ⟨rfl, -⟩ | ⟨rfl, hout⟩⟩ := exec_requests hexec
    · exact ⟨new, hnew, fun bs hbs => absurd hbs (hno bs)⟩
    · cases decodeEvt_isEvent hd
    · cases eq_encode_of_decodeEvt hd
      refine ⟨_, hnew, fun bs' hbs => ?_⟩
      cases List.mem_singleton.1 hbs
      exact ⟨rfl, hf, hlen, rest, .inr ⟨hin, hout⟩⟩
  all_goals exact ⟨[], by simp⟩

/-! ## No input -/

theorem step_of_no_input {s : State} (h : s.inputs = []) : step s = .next s := by simp [step, takeNext, h]

/-- Settles O8, by induction on the number of steps. -/
theorem parkedForEver : Obligations.ParkedForEver := by
  intro s k hin
  induction k with
  | zero => rfl
  | succ k ih =>
    have hstep : Sys2Proof.core.step s = .next s := step_of_no_input hin
    simpa only [Host.Core.run, hstep] using ih

end Sys2Proof.Machine
end

section
/-! Chunks (42_session.md R281, R319, R323) and one send from SEND to its end (R322): what holds after every successful
acknowledgment, then the three ways the send goes on from there. -/

namespace Sys2Proof.Machine

/-! ## The chunk size -/

/-- Settles O54. -/
theorem chunkSizeClamp : Obligations.ChunkSizeClamp := by
  intro mtu
  rw [chunkSize_eq]
  omega

theorem chunkSize_pos (mtu : Half) : 0 < chunkSize mtu := by have := chunkSize_ge mtu; omega

/-- Every payload chunk starts within the payload. -/
theorem mul_lt_of_lt_ceilDiv {a c k : Nat} (hc : 0 < c) (hk : k < ceilDiv a c) : k * c < a := by
  have hle : (k + 1) * c ≤ ceilDiv a c * c := Nat.mul_le_mul_right c hk
  have hlt := ceilDiv_mul_lt (a := a) hc
  rw [Nat.succ_mul] at hle
  omega

/-! ## The frame and its chunks -/

@[simp] theorem length_framePayload (s : State) : (framePayload s).length = 4740 := by simp [framePayload, frameHeader]

theorem take_framePayload (s : State) : (framePayload s).take 4 = frameHeader := List.take_left' rfl

/-- The frame's bytes are those SEND writes into FRAME (42_session.md R318). -/
theorem getElem?_framePayload (s : State) {o : Nat} (ho : o < 4740) :
    (framePayload s)[o]? = some (s.mem.frameByte s.draws o) := by
  match o with
  | 0 | 1 | 2 | 3 => rfl
  | i + 4 =>
    have hi : i < 4736 := by omega
    simp [framePayload, frameHeader, hi, fbRead, Memory.frameByte]

theorem length_chunkQueue (c : Nat) (frame : List Byte) : (chunkQueue c frame).length = ceilDiv 4736 c + 1 := by
  simp [chunkQueue]

/-- Payload chunk `k`, after the header chunk. -/
theorem getElem?_chunkQueue_succ {c k : Nat} (frame : List Byte) (hk : k < ceilDiv 4736 c) :
    (chunkQueue c frame)[k + 1]? = some ((frame.drop (4 + k * c)).take c) := by
  simp [chunkQueue, hk]

/-- A list cut every `c` elements, `n` times, is its first `n * c` elements. -/
theorem flatten_slices {α : Type} (l : List α) (c n : Nat) :
    ((List.range n).map fun k => (l.drop (k * c)).take c).flatten = l.take (n * c) := by
  induction n with
  | zero => simp
  | succ n ih => rw [List.range_succ, List.map_append, List.flatten_append, ih, Nat.succ_mul, List.take_add]; simp

theorem flatten_chunkQueue (s : State) {c : Nat} (hc : 0 < c) :
    (chunkQueue c (framePayload s)).flatten = framePayload s := by
  have hall : 4736 ≤ ceilDiv 4736 c * c := ceilDiv_mul_ge hc
  have hslices := flatten_slices ((framePayload s).drop 4) c (ceilDiv 4736 c)
  rw [List.take_of_length_le (by simpa using hall)] at hslices
  simp only [List.drop_drop] at hslices
  rw [chunkQueue, List.flatten_cons]
  exact hslices ▸ List.take_append_drop 4 (framePayload s)

theorem length_slice_framePayload (s : State) (c k : Nat) :
    (((framePayload s).drop (4 + k * c)).take c).length = min c (4736 - k * c) := by
  simp
  omega

theorem ceilDiv_pos {a b : Nat} (ha : 0 < a) (hb : 0 < b) : 0 < ceilDiv a b :=
  Nat.pos_of_ne_zero fun h => by have := ceilDiv_mul_ge (a := a) hb; simp [h] at this; omega

/-- Settles O56: a payload chunk is full when the next one starts within the payload. -/
theorem chunksCoverFrame : Obligations.ChunksCoverFrame := by
  rintro s mtu c n rfl rfl
  have hc := chunkSize_pos mtu
  refine ⟨length_chunkQueue _ _, flatten_chunkQueue s hc, ?_, fun k h1 hk => ?_, ?_⟩
  · rw [chunkQueue, List.head?_cons, take_framePayload]
  · obtain ⟨j, rfl⟩ := Nat.exists_eq_add_of_le' h1
    refine ⟨_, getElem?_chunkQueue_succ _ (Nat.lt_of_succ_lt hk), ?_⟩
    have hnext := mul_lt_of_lt_ceilDiv hc hk
    rw [Nat.succ_mul] at hnext
    rw [length_slice_framePayload]
    omega
  · obtain ⟨j, hj⟩ := Nat.exists_eq_add_of_lt (ceilDiv_pos (a := 4736) (by decide) hc)
    have hall : 4736 ≤ ceilDiv 4736 (chunkSize mtu) * chunkSize mtu := ceilDiv_mul_ge hc
    rw [Nat.zero_add] at hj
    rw [hj, Nat.succ_mul] at hall
    refine ⟨_, by rw [hj]; exact getElem?_chunkQueue_succ _ (by omega), ?_⟩
    rw [length_slice_framePayload, hj, Nat.add_sub_cancel]
    omega

/-- Settles O55: row by row; the writes are the payload chunks and the header. -/
theorem chunkCountsAtSampleMtus : Obligations.ChunkCountsAtSampleMtus := by
  have : Nonempty State := ⟨.reset⟩
  simp only [Obligations.ChunkCountsAtSampleMtus, length_chunkQueue, forall_const]
  decide

/-! ## A send from SEND to its end -/

/-- The state `t` of the send that SEND began from `s`, after `k` successful acknowledgments: the first `k` chunks are
counted and the next one is outstanding (42_session.md R321). -/
structure State.SendingAfter (s : State) (k : Nat) (t : State) : Prop where
  sess : t.sess = .sending
  inFlight : t.inFlight = true
  mtu : t.mtu = s.mtu
  frame : ∀ o < 4740, t.frame.peek o = (framePayload s)[o]?
  expected : t.expectedTotal = 4740#32
  cursor : t.txOffset.toNat = min (4 + k * chunkSize s.mtu) 4740
  outstanding : t.sentTotal.toNat + t.inflightLen.toNat = t.txOffset.toNat
  sent : t.sentTotal.toNat = if k = 0 then 0 else 4 + (k - 1) * chunkSize s.mtu
  requests : t.requests = s.requests ++ ((chunkQueue (chunkSize s.mtu) (framePayload s)).take (k + 1)).map .write

theorem State.sendingAfter_started (s : State) : s.SendingAfter 0 s.started where
  sess := rfl
  inFlight := rfl
  mtu := rfl
  frame := fun o ho => by rw [s.started_peek ho, getElem?_framePayload s ho]
  expected := rfl
  cursor := by simp [State.started]
  outstanding := rfl
  sent := rfl
  requests := by simp [chunkQueue, take_framePayload, State.started, frameHeader]

/-- What a read of FRAME's bytes gives during the send, whatever is drawn. -/
theorem State.SendingAfter.bytesAt {s t : State} {k : Nat} (h : s.SendingAfter k t) (d : Nat) {off len : Nat}
    (hle : off + len ≤ 4740) : t.frame.bytesAt d off len = ((framePayload s).drop off).take len := by
  apply List.ext_getElem
  · simp; omega
  · intro j hj _
    have hbyte : off + j < (framePayload s).length := by simp at hj ⊢; omega
    rw [Memory.getElem_bytesAt, List.getElem_take, List.getElem_drop]
    exact Memory.byteAt_of_peek ((h.frame _ (by simpa using hbyte)).trans (List.getElem?_eq_getElem hbyte)) d

/-- The sum that an acknowledgment leaves in SENT_TOTAL is the cursor (R54 (c)). -/
theorem State.SendingAfter.sum {s t : State} {k : Nat} (h : s.SendingAfter k t) :
    t.sentTotal + t.inflightLen.setWidth 32 = t.txOffset := by
  have hsum := h.outstanding
  have hlt := t.txOffset.isLt
  apply BitVec.eq_of_toNat_eq
  rw [BitVec.toNat_add, toNat_setWidth_word (by decide), hsum, Nat.mod_eq_of_lt hlt]

/-- A successful acknowledgment while chunks are left sends the next one. -/
theorem State.SendingAfter.succ {s t : State} {k : Nat} (h : s.SendingAfter k t)
    (hk : k < ceilDiv 4736 (chunkSize s.mtu)) :
    exec (.evtWriteDone true) t = .next t.chunkOut ∧ s.SendingAfter (k + 1) t.chunkOut := by
  have hstart := mul_lt_of_lt_ceilDiv (chunkSize_pos s.mtu) hk
  have hcursor : t.txOffset.toNat = 4 + k * chunkSize s.mtu := by have := h.cursor; omega
  obtain ⟨-, hlen, hend⟩ := t.nextChunkLen_bounds (by omega)
  have hnext : t.nextChunkLen = min (chunkSize s.mtu) (4736 - k * chunkSize s.mtu) := by
    rw [State.nextChunkLen, h.mtu, hcursor]
    simp only [Config.frameLen]
    omega
  have hchunk : t.frame.bytesAt t.draws t.txOffset.toNat t.nextChunkLen =
      ((framePayload s).drop (4 + k * chunkSize s.mtu)).take (chunkSize s.mtu) := by
    rw [h.bytesAt _ hend, hcursor, List.take_eq_take_iff, hnext]
    simp
    omega
  refine ⟨exec_writeDone_more h.sess h.inFlight (by omega), ?_⟩
  constructor
  case sess => exact h.sess
  case inFlight => exact h.inFlight
  case mtu => exact h.mtu
  case frame => exact h.frame
  case expected => exact h.expected
  case cursor =>
    simp [State.chunkOut, Nat.succ_mul]
    omega
  case outstanding =>
    simp [State.chunkOut, h.sum]
    omega
  case sent => simp [State.chunkOut, h.sum, hcursor]
  case requests =>
    rw [State.chunkOut, hchunk, h.requests, List.take_add_one (i := k + 1), getElem?_chunkQueue_succ _ hk]
    simp

/-- A run of operations, and one more. -/
theorem execs_concat_next {is : List Instr} {i : Instr} {s t u : State} (h : execs is s = .next t)
    (hi : exec i t = .next u) : execs (is ++ [i]) s = .next u := by
  rw [execs_append_next h, execs_cons_next hi, execs_nil]

/-- Until the queue is empty, every acknowledgment that succeeds keeps the send going. -/
theorem execs_send_replicate {s : State} (hr : s.sendReady = true) {k : Nat}
    (hk : k ≤ ceilDiv 4736 (chunkSize s.mtu)) :
    ∃ t, execs (.send :: List.replicate k (.evtWriteDone true)) s = .next t ∧ s.SendingAfter k t := by
  induction k with
  | zero => exact ⟨s.started, execs_cons_next (exec_send hr), s.sendingAfter_started⟩
  | succ k ih =>
    obtain ⟨t, hrun, ht⟩ := ih (by omega)
    obtain ⟨hexec, hnext⟩ := ht.succ hk
    rw [List.replicate_succ', ← List.cons_append]
    exact ⟨t.chunkOut, execs_concat_next hrun hexec, hnext⟩

/-- Settles O57: after `n` successes the whole queue is written and the last acknowledgment ends the send; after `k - 1`
the first `k` chunks are written and a failure ends it. -/
theorem sendOutcomes : Obligations.SendOutcomes := by
  rintro s hcv hs c n rfl rfl
  have hr : s.sendReady = true := s.sendReady_iff.2 ⟨hcv, hs⟩
  refine ⟨?_, fun k h1 hk => ?_⟩
  · obtain ⟨t, hrun, ht⟩ := execs_send_replicate hr (Nat.le_refl _)
    have hall : 4736 ≤ ceilDiv 4736 (chunkSize s.mtu) * chunkSize s.mtu := ceilDiv_mul_ge (chunkSize_pos s.mtu)
    have hend : t.txOffset.toNat = 4740 := by have := ht.cursor; omega
    rw [List.replicate_succ', ← List.cons_append]
    refine ⟨t.sendDone, execs_concat_next hrun (exec_writeDone_last ht.sess ht.inFlight hend.ge), rfl,
      ht.sum.trans (BitVec.eq_of_toNat_eq hend), ht.expected, rfl, ?_⟩
    exact ht.requests.trans (by rw [List.take_of_length_le (length_chunkQueue _ _).le])
  · obtain ⟨j, rfl⟩ := Nat.exists_eq_add_of_le' h1
    obtain ⟨t, hrun, ht⟩ := execs_send_replicate hr (Nat.le_of_succ_le_succ hk)
    exact ⟨t.sendFailed, execs_concat_next hrun (exec_writeDone_failed ht.sess ht.inFlight), rfl, rfl, rfl,
      by simpa [State.sendFailed] using ht.sent, ht.requests⟩

end Sys2Proof.Machine
end

section
/-! Outcomes and errors (60_exceptions.md): every step answers a next state, an unexpected event and a failed bus access
have no effect of their own, and the interrupt output is the OR of the enabled bits. -/

namespace Sys2Proof.Machine

/-! ## Every step answers a next state -/

/-- No branch of any operation stops the block (60_exceptions.md R412). -/
theorem exec_next (i : Instr) (s : State) : ∃ t, exec i s = .next t := by
  cases i with
  | nop | unpack | bmpEncode | disconnect | scanStop | evtLinkDown => exact ⟨_, rfl⟩
  | bmpDecode =>
    by_cases h : FileMatches (fileRead s) s.fileLen.toNat
    · exact ⟨_, exec_bmpDecode h⟩
    · exact ⟨_, exec_bmpDecode_noMatch h⟩
  | quantize | connect | send | scanStart =>
    simp only [exec, execQuantize, execConnect, execSend, execScanStart]
    split_ifs <;> exact ⟨_, rfl⟩
  | evtConnected | evtMtuResult | evtDiscovery | evtWriteDone | evtScanHit =>
    simp only [exec, execEvtConnected, execEvtMtuResult, execEvtDiscovery, execEvtWriteDone, execEvtScanHit]
    split_ifs <;> exact ⟨_, rfl⟩

theorem runCommand_next (w : Word) (s : State) : ∃ t, runCommand w s = .next t := by
  unfold runCommand
  split
  · exact exec_next _ s
  · exact ⟨_, rfl⟩

theorem takeEvent_next (e : Word) (s : State) : ∃ t, takeEvent e s = .next t := by
  unfold takeEvent
  split
  · exact exec_next _ s
  · exact ⟨_, rfl⟩

theorem busWrite_next (r : Region) (a : Nat) (w : Width) (v : Word) (s : State) :
    ∃ t, busWrite r a w v s = .next t := by
  unfold busWrite
  split_ifs
  · exact runCommand_next v _
  · exact ⟨_, rfl⟩
  · exact ⟨_, rfl⟩

/-- A write that fails its checks answers the error and does nothing else (60_exceptions.md R402). -/
theorem step_write_error {s : State} {addr v : Word} {w : Width} {rest : List Input} {k : BusErrorKind}
    (h : s.inputs = .host (.write addr w v) :: rest) (hc : busCheck addr w = .error k) :
    step s = .next ((s.taken rest).respond (.error k)) := by simp [step, takeNext, h, takeInput, busAccess, hc]

/-- A step takes nothing, the reset input, an event, or a host access that errors or passes its checks. -/
theorem step_next (s : State) : ∃ t, step s = .next t := by
  cases hin : s.inputs with
  | nil => exact ⟨s, step_of_no_input hin⟩
  | cons x rest =>
    cases x with
    | reset => exact ⟨_, step_reset hin⟩
    | event e => exact step_event hin ▸ takeEvent_next e _
    | host a =>
      cases a with
      | read addr w =>
        cases hc : busCheck addr w with
        | error k => exact ⟨_, step_read_error hin hc⟩
        | ok r => exact ⟨_, step_read hin hc⟩
      | write addr w v =>
        cases hc : busCheck addr w with
        | error k => exact ⟨_, step_write_error hin hc⟩
        | ok r => exact step_write hin hc ▸ busWrite_next r _ w v _

/-- Settles O7: over the input the step takes, if any, and over the operations. -/
theorem stepAlwaysNext : Obligations.StepAlwaysNext := ⟨step_next, exec_next⟩

/-! ## Unexpected events -/

/-- A reserved word decodes to no event, and an event that its state does not expect is ignored by its operation. -/
theorem takeEvent_of_unexpected {e : Word} {s : State} (hu : Unexpected e s) : takeEvent e s = .next s.ignore := by
  unfold Unexpected at hu
  unfold takeEvent
  cases hd : decodeEvt e with
  | error k => rfl
  | ok i =>
    rw [hd] at hu
    exact exec_of_unexpectedIn hu

/-- Settles O21: what an event expects does not depend on the inputs still pending. -/
theorem unexpectedEventIgnored : Obligations.UnexpectedEventIgnored := by
  intro s e rest hin hu
  have hu' : Unexpected e (s.taken rest) := hu
  exact (step_event hin).trans (takeEvent_of_unexpected hu')

/-! ## Bus errors -/

/-- The buffers are the regions other than the register page (20_memory.md R81). -/
theorem inBuffer_iff {a n : Nat} : InBuffer a n ↔ ∃ r : Region, r ≠ .page ∧ r.base ≤ a ∧ a + n ≤ r.base + r.size := by
  constructor
  · rintro (hfb | hfile | hcanvas)
    · exact ⟨.fb, by decide, hfb⟩
    · exact ⟨.file, by decide, hfile⟩
    · exact ⟨.canvas, by decide, hcanvas⟩
  · rintro ⟨r, hr, hin⟩
    cases r with
    | page => exact absurd rfl hr
    | fb => exact .inl hin
    | file => exact .inr (.inl hin)
    | canvas => exact .inr (.inr hin)

theorem regionOf_page {a n : Nat} (hn : 0 < n) (h : InPage a n) : regionOf a n = some .page :=
  regionOf_eq hn ⟨Nat.zero_le a, h.trans (Nat.le_add_left ..)⟩

/-- An access that no region holds whole is unmapped (60_exceptions.md R402). -/
theorem busCheck_unmapped {addr : Word} {w : Width} (hpage : ¬ InPage addr.toNat w.bytes)
    (hbuf : ¬ InBuffer addr.toNat w.bytes) : busCheck addr w = .error .unmapped := by
  have hnone : regionOf addr.toNat w.bytes = none := regionOf_none.2 fun r hin => by
    by_cases hr : r = .page
    · subst hr
      exact hpage (hin.2.trans_eq (Nat.zero_add _))
    · exact hbuf (inBuffer_iff.2 ⟨r, hr, hin⟩)
  rw [busCheck, hnone]

/-- The register page takes accesses of 32 bits alone (60_exceptions.md R402). -/
theorem busCheck_width {addr : Word} {w : Width} (hpage : InPage addr.toNat w.bytes) (hw : w ≠ .b32) :
    busCheck addr w = .error .width := by
  simp [busCheck, regionOf_page w.bytes_pos hpage, hw]

/-- Alignment is the last of the checks (60_exceptions.md R403). -/
theorem busCheck_misaligned {addr : Word} {w : Width}
    (h : (InPage addr.toNat w.bytes ∧ w = .b32) ∨ InBuffer addr.toNat w.bytes) (hal : addr.toNat % w.bytes ≠ 0) :
    busCheck addr w = .error .misaligned := by
  obtain ⟨r, hr, hw⟩ : ∃ r, regionOf addr.toNat w.bytes = some r ∧ ¬ (r = .page ∧ w ≠ .b32) := by
    obtain ⟨hpage, hw⟩ | hbuf := h
    · exact ⟨.page, regionOf_page w.bytes_pos hpage, fun hwidth => hwidth.2 hw⟩
    · obtain ⟨r, hr, hin⟩ := inBuffer_iff.1 hbuf
      exact ⟨r, regionOf_eq w.bytes_pos hin, fun hwidth => hr hwidth.1⟩
  simp only [busCheck, hr, if_neg hw, if_pos hal]

/-- Settles O47: each kind is the first check the access fails, and an access that fails one answers the error alone. -/
theorem busErrorsChangeNothing : Obligations.BusErrorsChangeNothing := by
  intro s x rest addr w hin hx k hk
  have hc : busCheck addr w = .error k := by
    obtain ⟨rfl, hpage, hbuf⟩ | ⟨rfl, hpage, hw⟩ | ⟨rfl, hmapped, hal⟩ := hk
    · exact busCheck_unmapped hpage hbuf
    · exact busCheck_width hpage hw
    · exact busCheck_misaligned hmapped hal
  refine ⟨?_, rfl⟩
  obtain rfl | ⟨v, rfl⟩ := hx
  · exact step_read_error hin hc
  · exact step_write_error hin hc

/-! ## The interrupt output -/

/-- Settles O53: the byte of enabled status bits is nonzero exactly when one of its eight bits is set. -/
theorem irqIsOrOfEnabledBits : Obligations.IrqIsOrOfEnabledBits := by
  intro s
  calc s.irq = true
      ↔ s.intStatus &&& s.intEnable ≠ 0#8 := bne_iff_ne
    _ ↔ ∃ i < 8, (s.intStatus &&& s.intEnable).getLsbD i = true := by simp [BitVec.eq_of_getLsbD_eq_iff]
    _ ↔ _ := by simp only [BitVec.getLsbD_and, Bool.and_eq_true]

end Sys2Proof.Machine
end

section
/-! Reset (70_reset_and_hazards.md): what the reset input loads (R450), and the invariants at reset and in every state
reachable from it (R453). -/

namespace Sys2Proof.Machine

/-! ## The reset input -/

/-- No register shows what reset keeps: the model's own fields and the matrix (R450, log 7, log 21). -/
theorem takeReset_readReg (s : State) (off : Nat) : (takeReset s).readReg off = State.reset.readReg off := rfl

theorem takeReset_irq (s : State) : (takeReset s).irq = State.reset.irq := rfl

/-- Settles O10: the step is `takeReset`, whose fifteen registers and interrupt output are those of the reset state. -/
theorem resetInputLoadsResetValues : Obligations.ResetInputLoadsResetValues := by
  intro s rest hin
  have hstep : step s = .next (takeReset (s.taken rest)) := step_reset hin
  refine ⟨hstep, fun t ht => ?_⟩
  cases hstep.symm.trans ht
  simp only [takeReset_readReg, takeReset_irq]
  iterate 16 refine ⟨by decide, ?_⟩
  exact ⟨rfl, fun _ => ⟨rfl, rfl⟩⟩

/-! ## The invariants -/

/-- Settles O11: the reset input leaves this state as it is, and what it leaves meets the invariants. -/
theorem resetInvariant : Obligations.ResetInvariant := fun bayer4 ins =>
  takeReset_inv ((State.reset.withMatrix bayer4).withScript ins)

/-- The reset state meets the invariants and every step keeps them (R453). -/
theorem Reachable.inv {t : State} (h : Reachable t) : t.Inv :=
  reachable_induction resetInvariant stepKeepsInvariant h

/-- Settles O13: the invariants by induction on the run; R54 (e) holds of a step from any state. -/
theorem reachableInvariant : Obligations.ReachableInvariant :=
  ⟨fun bayer4 => resetInvariant bayer4 [], fun t ht => ⟨ht.inv, mtuChangesOnlyInConnectOrMtuResult t⟩⟩

end Sys2Proof.Machine
end
